-- ==== Sys2Proof/Word.lean ====
section
/-! DEFINITION. Word.lean: the words, addresses and small containers of the QX-260 model. -/

namespace Sys2Proof

/-- A 32-bit data word or register word (0.4, R98). -/
abbrev Word := BitVec 32

/-- The check bits C0 (bit 0) to C6 (bit 6) stored with a data word (R79). -/
abbrev CheckBits := BitVec 7

/-- A word address of the memory window: bits 23:2 of the byte address, as the lines HA[23:2] carry it (0.6). -/
abbrev WordAddr := BitVec 22

/-- A descriptor address: bits 23:4 of a 16-byte aligned byte address (R115, R116). -/
abbrev DescAddr := BitVec 20

/-- A global group number, 0 to 1023: bits 23:14 of the byte address (0.4). -/
abbrev GroupNo := BitVec 10

/-- A row of a bank, 0 to 2047: bits 21:11 of the byte address (0.4). -/
abbrev RowNo := BitVec 11

/-- Bank 0 to bank 3. -/
abbrev BankNo := Fin 4

/-- Channel CH0 to CH3; stream pair n belongs to channel n (R152). -/
abbrev ChanNo := Fin 4

/-- One stored word of the array: 32 data bits and 7 check bits (R79). -/
structure Stored where
  data : Word
  check : CheckBits
  deriving DecidableEq, Repr

/-- Four things of one kind, one for each bank or for each channel. -/
structure Four (α : Type) where
  v0 : α
  v1 : α
  v2 : α
  v3 : α
  deriving DecidableEq, Repr

/-- The thing of bank or channel `i`. -/
def Four.get {α : Type} (f : Four α) (i : Fin 4) : α :=
  match i with
  | 0 => f.v0
  | 1 => f.v1
  | 2 => f.v2
  | 3 => f.v3

/-- `f` with the thing of bank or channel `i` replaced. -/
def Four.set {α : Type} (f : Four α) (i : Fin 4) (x : α) : Four α :=
  match i with
  | 0 => { f with v0 := x }
  | 1 => { f with v1 := x }
  | 2 => { f with v2 := x }
  | 3 => { f with v3 := x }

/-- The same thing four times. -/
def Four.all {α : Type} (x : α) : Four α := ⟨x, x, x, x⟩

/-- `f` applied to each of the four. -/
def Four.map {α β : Type} (f : Four α) (g : α → β) : Four β := ⟨g f.v0, g f.v1, g f.v2, g f.v3⟩

/-- The four numbers in ascending order. -/
def Four.indices : List (Fin 4) := [0, 1, 2, 3]

end Sys2Proof
end

