-- ==== Sys2Proof/Syntax.lean ====
section
/-! DEFINITION. Syntax.lean: the commands of the QX-260, one constructor for each row of spec/opcode_table.json. The table
gives no operands; those below are what the rules say a row's happening carries (log entry 8). -/

namespace Sys2Proof

/-- One command: a row of the table with its operands. -/
inductive Instr where
  /-- PIN_RESET (R21): RESET is asserted. -/
  | pinReset
  /-- RESET_RELEASE (R42, R174): RESET is released. -/
  | resetRelease
  /-- REFRESH_TICK (R44): the tick timer fires. -/
  | refreshTick
  /-- WAKE_START (R5), at bank `b`. -/
  | wakeStart (b : BankNo)
  /-- PAGE_HOLD_EXPIRY (R13), at bank `b`. -/
  | pageHoldExpiry (b : BankNo)
  /-- BANK_GRANT (R64, R71), at bank `b`. -/
  | bankGrant (b : BankNo)
  /-- HOST_READ_COMPLETE (R101): the host READ in flight at bank `b` completes. -/
  | hostReadComplete (b : BankNo)
  /-- HOST_WRITE_COMPLETE (R104): the host WRITE in flight at bank `b` completes. -/
  | hostWriteComplete (b : BankNo)
  /-- MERGE_COMPLETE (R87), at bank `b`. -/
  | mergeComplete (b : BankNo)
  /-- FILL_SEGMENT_COMPLETE (R33), at bank `b`. -/
  | fillSegmentComplete (b : BankNo)
  /-- SCRUB_SEGMENT_COMPLETE (R94), at bank `b`. -/
  | scrubSegmentComplete (b : BankNo)
  /-- DESCRIPTOR_FETCH_COMPLETE (R118), at bank `b`; the operation in flight names its channel. -/
  | descriptorFetchComplete (b : BankNo)
  /-- CHANNEL_READ_COMPLETE (R122), at bank `b`. -/
  | channelReadComplete (b : BankNo)
  /-- CHANNEL_WRITE_COMPLETE (R123), at bank `b`. -/
  | channelWriteComplete (b : BankNo)
  /-- WRITEBACK_COMPLETE (R129), at bank `b`. -/
  | writebackComplete (b : BankNo)
  /-- CHANNEL_PAUSE_TAKES_EFFECT (R134), for channel `n`. -/
  | channelPauseTakesEffect (n : ChanNo)
  /-- ABORT_REPORT (R141), for channel `n`. -/
  | abortReport (n : ChanNo)
  /-- RESIDUAL_CLEAR (R136), for channel `n`. -/
  | residualClear (n : ChanNo)
  /-- REFRESH_COMPLETE (R54), at bank `b`. -/
  | refreshComplete (b : BankNo)
  /-- CLOSE_COMPLETE (R13), at bank `b`. -/
  | closeComplete (b : BankNo)
  /-- WAKE_COMPLETE (R6), at bank `b`. -/
  | wakeComplete (b : BankNo)
  /-- SELF_REFRESH_ENTRY_COMPLETE (R19), at bank `b`. -/
  | selfRefreshEntryComplete (b : BankNo)
  /-- POWER_DOWN_COMPLETE (R19), at bank `b`. -/
  | powerDownComplete (b : BankNo)
  /-- SELF_REFRESH_EXIT_COMPLETE (R20), at bank `b`. -/
  | selfRefreshExitComplete (b : BankNo)
  /-- DEFERRED_SWITCH_OFF (R8), at bank `b`. -/
  | deferredSwitchOff (b : BankNo)
  /-- RETENTION_ORDER_START (R18), at bank `b`. -/
  | retentionOrderStart (b : BankNo)
  /-- FILL_ENGINE_TAKE_UP (R30). -/
  | fillEngineTakeUp
  /-- MEMORY_READ (R99, R100): a read cycle of the memory window at `addr`; its byte enables are ignored (R98). -/
  | memoryRead (addr : WordAddr)
  /-- READ_DRAIN_END (R100). -/
  | readDrainEnd
  /-- MEMORY_WRITE (R102): a write cycle of the memory window at `addr`, with HBE[3:0] in `lanes` and HD in `data`. -/
  | memoryWrite (addr : WordAddr) (lanes : BitVec 4) (data : Word)
  /-- HELD_WRITE_ACCEPT (R102). -/
  | heldWriteAccept
  /-- DOUBLE_SELECT (R97): a cycle with both MSEL and RSEL asserted. -/
  | doubleSelect
  /-- REGISTER_WRITE (R107): a register-window write to register number `reg` (HA[7:2]). -/
  | registerWrite (reg : BitVec 6) (data : Word)
  /-- CONFIG_WRITE (R43). -/
  | configWrite (data : Word)
  /-- CONFIG2_WRITE (R2, R22). -/
  | config2Write (data : Word)
  /-- CHECK_OVERRIDE_WRITE (R88). -/
  | checkOverrideWrite (data : Word)
  /-- FENCE_WRITE (R144): to FENCE_LIMIT of channel `n` when `limit`, else to its FENCE_BASE. -/
  | fenceWrite (n : ChanNo) (limit : Bool) (data : Word)
  /-- EVENT_FLAGS_WRITE (R182). -/
  | eventFlagsWrite (data : Word)
  /-- EVENT_ENABLE_WRITE (R183). -/
  | eventEnableWrite (data : Word)
  /-- COMMAND_BARRIER_END (R109). -/
  | commandBarrierEnd
  /-- BANK_ON (R4): code 0x01 written to COMMAND, with `upper` in bits 31:8; its value is in ARG. -/
  | bankOn (upper : BitVec 24)
  /-- BANK_OFF (R7): code 0x02. -/
  | bankOff (upper : BitVec 24)
  /-- FILL (R27): code 0x03. -/
  | fill (upper : BitVec 24)
  /-- RELEASE (R37): code 0x04. -/
  | release (upper : BitVec 24)
  /-- QUERY (R39): code 0x05. -/
  | query (upper : BitVec 24)
  /-- LOG_POP (R180): code 0x06. -/
  | logPop (upper : BitVec 24)
  /-- CH_START (R137): code 0x10, the channel number in bits 9:8 and `upper` in bits 31:10. -/
  | chStart (n : ChanNo) (upper : BitVec 22)
  /-- CH_PAUSE (R138): code 0x11. -/
  | chPause (n : ChanNo) (upper : BitVec 22)
  /-- CH_RESUME (R139): code 0x12. -/
  | chResume (n : ChanNo) (upper : BitVec 22)
  /-- CH_ABORT (R140): code 0x13. -/
  | chAbort (n : ChanNo) (upper : BitVec 22)
  /-- CH_RESET (R143): code 0x14. -/
  | chReset (n : ChanNo) (upper : BitVec 22)
  /-- SOFT_RESET (R112): code 0x1F. -/
  | softReset (upper : BitVec 24)
  /-- UNKNOWN_COMMAND (R186): `word` is written to COMMAND and its code names no command. -/
  | unknownCommand (word : Word)
  /-- SRQ_ASSERT (R157): the peripheral asserts SRQn. -/
  | srqAssert (n : ChanNo)
  /-- SRQ_DEASSERT (R157): the peripheral deasserts SRQn with no beat of channel `n` in progress. -/
  | srqDeassert (n : ChanNo)
  /-- STREAM_TAKE (R153): the peripheral deasserts SRQn while SAKn is asserted, with SD and SLAST as sampled then. -/
  | streamTake (n : ChanNo) (sd : Word) (slast : Bool)
  /-- RET_REQ_RISE (R164). -/
  | retReqRise
  /-- RET_REQ_FALL (R167, R168, R171). -/
  | retReqFall
  /-- QUIESCE_COMPLETE (R165). -/
  | quiesceComplete
  /-- RETENTION_SETTLED (R170). -/
  | retentionSettled
  /-- WAKING_COMPLETE (R173). -/
  | wakingComplete
  deriving DecidableEq, Repr

end Sys2Proof
end

