-- ==== Sys2Proof/Decode.lean ====
section
/-! DEFINITION. Decode.lean: the commands that a word spells by the bits of spec/opcode_table.json. The table gives
bits for none of its rows (each row's "fields" is empty, and it has no "fixed" bits): the QX-260 is a block, its commands
are bus cycles, pin changes and happenings, and no instruction word carries them. What the spec does decode, the word
written to COMMAND (R186), is decoded where the command is taken (Machine/Command.lean). -/

namespace Sys2Proof

/-- The command that the `nbits`-bit word `w` spells by the table's bits: none, since no row of the table has bits. -/
def decodeTableWord (_nbits _w : Nat) : Option Instr := none

end Sys2Proof
end

