-- ==== Sys2Proof/Config.lean ====
section
/-! DEFINITION. Config.lean: what the QX-260 fixes (depths, unit sizes, its ID) and the one free value of the model. -/

namespace Sys2Proof.Config

/-- The ID register (R111). -/
def idWord : Word := 0x51582601#32

/-- Entries of the host write queue (R103). -/
def hostQueueDepth : Nat := 4

/-- Entries of the fill queue (R29). -/
def fillQueueDepth : Nat := 8

/-- Records of the error log (R176). -/
def logDepth : Nat := 8

/-- Words of a staging FIFO (R122). -/
def fifoDepth : Nat := 16

/-- The longest channel burst, in words (R121). -/
def burstMax : Nat := 8

/-- Words of a row (0.4). -/
def rowWords : Nat := 512

/-- Words of a fill segment, and the number of the last segment of a group (R31). -/
def fillSegmentWords : Nat := 64
def lastFillSegment : Nat := 63

/-- Words of a scrub segment (R90). -/
def scrubSegmentWords : Nat := 16

/-- The settle wait of INIT, in refresh ticks (R5). -/
def settleTicks : Nat := 8

/-- The cap of the streak count (R69). -/
def streakCap : Nat := 16

/-- The most scrub credits held (R91). -/
def creditCap : Nat := 16

/-- A weak count and a repeat count saturate here (R26, R178). -/
def countCap : Nat := 15

/-- MCLK periods of one TICKDIV unit and of one HOLD unit (R42, R12). -/
def tickUnit : Nat := 64
def holdUnit : Nat := 16

/-- FREE VALUE (log entry 9). Where several blocks meet one happening in one step and the spec lets either be taken
first (R65, R75, R176), the next one taken is number `together k` of those left, modulo how many they are, `k` being
the model's counter of such choices. It has no body: no statement can rest on its value. -/
opaque together : Nat → Nat

end Sys2Proof.Config
end

