-- ==== Sys2Proof/Machine/State.lean ====
section
/-! DEFINITION. State.lean: everything the spec gives the QX-260, as plain data, and the machine right after reset. -/

namespace Sys2Proof.Machine

/-! ### Banks (chapter 1) -/

/-- The bank states (R3). -/
inductive BankState where
  | off | init | ready | entering | retained | dormant | exiting
  deriving DecidableEq, Repr

/-- The two retention orders a READY bank can be given (R18). -/
inductive RetentionOrder where
  | selfRefreshEntry | powerDown
  deriving DecidableEq, Repr

/-- The ARRAY_TIMING record, in MCLK periods (R22). -/
structure Timing where
  tOpen : Nat
  tCol : Nat
  tClose : Nat
  tRef : Nat
  tSrx : Nat
  deriving DecidableEq, Repr

/-- What a bank operation, or a request for one, is for (R9, R63). The channel operations name their channel. -/
inductive OpKind where
  | hostRead | hostWrite | hostMerge
  | fetch (n : ChanNo) | dataRead (n : ChanNo) | dataWrite (n : ChanNo) | writeback (n : ChanNo)
  | fillSegment | scrubSegment
  | refresh | close | wake | selfRefreshEntry | powerDown | selfRefreshExit
  deriving DecidableEq, Repr

/-- A bank operation in flight (R9): its first word and word count, the words it writes, CONFIG.CWB and the timing record as
they stood at its start (R22, R84), whether its requester no longer takes its results (R96, R136), the MCLK periods
known at its start to be needed, and those spent. -/
structure Op where
  kind : OpKind
  addr : WordAddr
  words : Nat
  payload : List Stored
  cwb : Bool
  residual : Bool
  timing : Timing
  periods : Nat
  elapsed : Nat
  deriving DecidableEq, Repr

/-- A running page-hold timer: the period it started with, and the periods counted (R12). -/
structure HoldTimer where
  period : Nat
  count : Nat
  deriving DecidableEq, Repr

/-- One bank sequencer (R3, R5, R8, R11, R12, R18). -/
structure Bank where
  state : BankState
  settle : Nat
  openRow : Option RowNo
  holdTimer : Option HoldTimer
  op : Option Op
  offWaiting : Bool
  order : Option RetentionOrder
  deriving DecidableEq, Repr

/-- A request pending at an arbiter (R62): the row and the first column are those of `addr`. -/
structure Request where
  kind : OpKind
  addr : WordAddr
  words : Nat
  deriving DecidableEq, Repr

/-- One bank arbiter (R62, R68, R69). The positions are coded as ROT_POS is (12.3): 0 to 3 CH0 to CH3, 4 FILL, 5 REFRESH.
The REFRESH request is a function of the bank and its balance (R51) and has no field. `met` is the model's own (log entry 13): two or more
requests have reached this free bank together, and no decision has been made since (R65). -/
structure Arbiter where
  host : Option Request
  ch : Four (Option Request)
  fill : Option Request
  scrub : Option Request
  streak : Nat
  rotPos : Fin 6
  hitPos : Fin 6
  met : Bool
  deriving DecidableEq, Repr

/-- The refresh account of one bank (R45). -/
structure RefreshAccount where
  balance : Int
  cursor : BitVec 8
  deriving DecidableEq, Repr

/-- The refresh tick timer (R42): running unless RESET is asserted, and the MCLK periods counted. -/
structure TickTimer where
  running : Bool
  count : Nat
  deriving DecidableEq, Repr

/-! ### Row groups (chapter 2) -/

/-- The group states (R23). -/
inductive GroupState where
  | discard | fillPending | filling | keep | lapsed
  deriving DecidableEq, Repr

/-- One entry of the Row Group Table (R23). -/
structure Group where
  state : GroupState
  weak : Nat
  deriving DecidableEq, Repr

/-- One entry of the fill queue (R29). -/
structure FillEntry where
  first : Nat
  count : Nat
  next : Nat
  deriving DecidableEq, Repr

/-- The fill queue and the fill engine (R29, R30, R34, R35, R40). -/
structure FillUnit where
  queue : List FillEntry
  ending : Bool
  segment : Nat
  restart : Bool
  held : Bool
  deriving DecidableEq, Repr

/-! ### Check unit and scrubber (chapter 5) -/

/-- The check-override latch (R88). -/
structure CheckOverride where
  armed : Bool
  check : CheckBits
  deriving DecidableEq, Repr

/-- The scrubber's states (R90). -/
inductive ScrubState where
  | idle | wait | active | held
  deriving DecidableEq, Repr

/-- The scrubber (R90): its cursor (bank, row, segment), credits, pass count and state. -/
structure Scrubber where
  bank : BankNo
  row : RowNo
  segment : BitVec 5
  credits : Nat
  pass : BitVec 16
  state : ScrubState
  deriving DecidableEq, Repr

/-! ### Host port (chapter 6) -/

/-- One entry of the host write queue (R102); `mark` carries the check bits of a taken override (R89). -/
structure HostEntry where
  addr : WordAddr
  lanes : BitVec 4
  data : Word
  mark : Option CheckBits
  deriving DecidableEq, Repr

/-- The cycle state of the host port (R97), with what the held cycle carries. -/
inductive Cycle where
  | idle
  | readDrain (addr : WordAddr)
  | readArray (addr : WordAddr)
  | writeHeld (addr : WordAddr) (lanes : BitVec 4) (data : Word)
  | barrier
  deriving DecidableEq, Repr

/-- How a bus cycle ended: HRDY, with the data of a read, or HERR (R97). -/
inductive BusEnd where
  | ready (data : Option Word)
  | error
  deriving DecidableEq, Repr

/-- The host port (R97, R103); `busEnd` is the end of the last cycle, none while a cycle is held. -/
structure HostPort where
  queue : List HostEntry
  cycle : Cycle
  busEnd : Option BusEnd
  deriving DecidableEq, Repr

/-- OUTCOME of CMD_STATUS (R110). -/
inductive CommandOutcome where
  | none | taken | refused
  deriving DecidableEq, Repr

/-- REASON of CMD_STATUS (R110). -/
inductive Reason where
  | none | state | arg | full | retention
  deriving DecidableEq, Repr

/-- CMD_STATUS (R110). -/
structure CmdStatus where
  outcome : CommandOutcome
  reason : Reason
  code : BitVec 8
  resultState : GroupState
  resultWeak : Nat
  deriving DecidableEq, Repr

/-- CONFIG (12.2). -/
structure ConfigReg where
  tickdiv : BitVec 8
  hold : BitVec 6
  cwb : Bool
  weakThreshold : BitVec 4
  scrubRate : Nat
  deriving DecidableEq, Repr

/-! ### Transfer channels (chapters 7 and 8) -/

/-- The channel states (R133). -/
inductive ChState where
  | idle | loading | active | paused | halted
  deriving DecidableEq, Repr

/-- The pause-reason set (R133). -/
structure Pauses where
  host : Bool
  retention : Bool
  unowned : Bool
  deriving DecidableEq, Repr

/-- STOP (R133). -/
inductive StopReason where
  | none | ended | aborted | fault
  deriving DecidableEq, Repr

/-- The fault codes (R147, 12.4), used by channels and by WRITE_FAILED records. -/
inductive FaultCode where
  | none | descField | descAlign | range | overlap | fence | descUncorrectable | groupState | bankState
  | readUncorrectable | writeback
  deriving DecidableEq, Repr

/-- The four operations of a descriptor (R115). -/
inductive ChanOp where
  | copy | pattern | streamIn | streamOut
  deriving DecidableEq, Repr

/-- The working descriptor (R116): the fields as fetched, the source and destination cursors, and the source words not yet
asked for by a granted read. -/
structure Work where
  op : ChanOp
  note : Bool
  last : Bool
  wb : Bool
  count : Nat
  word1 : Word
  word2 : Word
  word3 : Word
  src : WordAddr
  dst : WordAddr
  unread : Nat
  deriving DecidableEq, Repr

/-- The outcome of a descriptor (R127, R141). -/
inductive DescOutcome where
  | complete | short | aborted
  deriving DecidableEq, Repr

/-- One word of a staging FIFO, with its last mark (R122). -/
structure FifoWord where
  data : Word
  last : Bool
  deriving DecidableEq, Repr

/-- One transfer channel (R116, R133, R144). `ended` is the outcome of the installed descriptor once it has ended or its
abort has been reported, while its write-back is outstanding (R128, R141). -/
structure Channel where
  state : ChState
  pauses : Pauses
  stop : StopReason
  fault : FaultCode
  aborting : Bool
  residual : Bool
  desc : DescAddr
  work : Option Work
  remaining : Nat
  ended : Option DescOutcome
  fifo : List FifoWord
  done : BitVec 16
  fenceBase : WordAddr
  fenceLimit : WordAddr
  deriving DecidableEq, Repr

/-! ### Stream port (chapter 9) -/

/-- A beat in progress (R154); `out` holds the word latched for an OUT beat and is none for an IN beat. -/
structure Beat where
  ch : ChanNo
  out : Option Word
  residual : Bool
  deriving DecidableEq, Repr

/-- The stream port (R154): the beat, the rotation position, the channel BEAT_CH shows, and the SRQ levels. -/
structure StreamPort where
  beat : Option Beat
  rot : ChanNo
  beatCh : ChanNo
  srq : Four Bool
  deriving DecidableEq, Repr

/-! ### Retention controller (chapter 10) -/

/-- The retention states (R163). -/
inductive RetentionState where
  | normal | quiescing | denied | entering | retained | waking
  deriving DecidableEq, Repr

/-- The retention controller (R163): its state, UNSETTLED, and the level of RET_REQ. -/
structure Retention where
  state : RetentionState
  unsettled : Nat
  req : Bool
  deriving DecidableEq, Repr

/-! ### Error log and event unit (chapter 11) -/

/-- The kinds of record (R175). -/
inductive RecordKind where
  | corrected | uncorrectable | mergeFailed | writeFailed | lapse | weak | channelFault
  deriving DecidableEq, Repr

/-- The source of a record (R175). -/
inductive Source where
  | host | ch (n : ChanNo) | scrub | refresh
  deriving DecidableEq, Repr

/-- The syndrome of a check: S (6 bits) and P (R81). -/
structure Syndrome where
  s : BitVec 6
  p : Bool
  deriving DecidableEq, Repr

/-- A finding, as a block hands it to the log (R175). -/
structure Finding where
  kind : RecordKind
  source : Source
  addr : Option WordAddr
  group : Option GroupNo
  syndrome : Option Syndrome
  desc : Option DescAddr
  fault : FaultCode
  deriving DecidableEq, Repr

/-- An error record (R175). -/
structure Record where
  finding : Finding
  seq : BitVec 8
  repeats : Nat
  deriving DecidableEq, Repr

/-- The error log (R176, R177, R179), oldest record first. -/
structure ErrorLog where
  records : List Record
  nextSeq : BitVec 8
  overflow : Nat
  deriving DecidableEq, Repr

/-- The event unit (R182, R183): the sticky flags (bit 8, LOG, is a level and stays clear here) and the enables, in the
positions of 12.3. -/
structure EventUnit where
  sticky : BitVec 17
  enable : BitVec 17
  deriving DecidableEq, Repr

/-! ### The machine -/

/-- No row of the QX-260 stops the machine with a fault: HERR, a channel fault and a refused command are next states. -/
inductive Fault where
  deriving DecidableEq, Repr

/-- The one refusal: an arm of exec whose command has no meaning yet would raise it (safe). No arm does. -/
inductive Refusal where
  /-- Raised by exec for a command without a meaning; safe, since nothing is claimed of it. -/
  | notModelled (mnemonic : String)
  deriving DecidableEq, Repr

/-- The state of the QX-260, and the queue of the commands that wait for it. -/
structure State where
  /-- The commands waiting, first in, first out (the model's own; log entry 1). -/
  pending : List Instr
  /-- The level of the RESET line (R21, R42). -/
  resetAsserted : Bool
  /-- The array: listed words, addresses rising (R79). -/
  array : List (Nat × Stored)
  /-- The Row Group Table: listed groups, numbers rising (R23). -/
  groups : List (Nat × Group)
  config : ConfigReg
  fitted : Four Bool
  timing : Timing
  banks : Four Bank
  arbs : Four Arbiter
  refresh : Four RefreshAccount
  tick : TickTimer
  fill : FillUnit
  scrub : Scrubber
  override : CheckOverride
  host : HostPort
  /-- COMMAND: the word last written (R108). -/
  command : Word
  /-- ARG (R108). -/
  arg : Word
  cmdStatus : CmdStatus
  chans : Four Channel
  stream : StreamPort
  retention : Retention
  log : ErrorLog
  events : EventUnit
  /-- The counter Config.together is applied to (the model's own; log entry 9). -/
  ties : Nat
  deriving DecidableEq, Repr

/-! ### Reset values -/

/-- A bank after pin reset (R3, R21). -/
def resetBank : Bank :=
  { state := .off, settle := 0, openRow := none, holdTimer := none, op := none, offWaiting := false, order := none }

/-- An arbiter after pin reset (R78). -/
def resetArbiter : Arbiter :=
  { host := none, ch := Four.all none, fill := none, scrub := none, streak := 0, rotPos := 5, hitPos := 5
    met := false }

/-- A channel after pin reset (R116, R133, R144). -/
def resetChannel : Channel :=
  { state := .idle, pauses := ⟨false, false, false⟩, stop := .none, fault := .none, aborting := false, residual := false,
    desc := 0#20, work := none, remaining := 0, ended := none, fifo := [], done := 0#16,
    fenceBase := 0#22, fenceLimit := 0x3FFFFF#22 }

/-- CONFIG after pin reset: 0x00048818 (12.1). -/
def resetConfig : ConfigReg :=
  { tickdiv := 24#8, hold := 8#6, cwb := true, weakThreshold := 4#4, scrubRate := 0 }

/-- The timing fields of CONFIG2 after pin reset (R22). -/
def resetTiming : Timing := { tOpen := 3, tCol := 1, tClose := 3, tRef := 10, tSrx := 200 }

/-- CMD_STATUS after pin reset (R110). -/
def resetCmdStatus : CmdStatus :=
  { outcome := .none, reason := .none, code := 0#8, resultState := .discard, resultWeak := 0 }

/-- The machine right after reset: RESET has been asserted and released, RET_REQ and every SRQ line are low, the tick timer
starts from zero (log entries 5 and 6). -/
def State.reset : State :=
  { pending := []
    resetAsserted := false
    array := []
    groups := []
    config := resetConfig
    fitted := Four.all true
    timing := resetTiming
    banks := Four.all resetBank
    arbs := Four.all resetArbiter
    refresh := Four.all { balance := 0, cursor := 0#8 }
    tick := { running := true, count := 0 }
    fill := { queue := [], ending := false, segment := 0, restart := false, held := false }
    scrub := { bank := 0, row := 0#11, segment := 0#5, credits := 0, pass := 0#16, state := .idle }
    override := { armed := false, check := 0#7 }
    host := { queue := [], cycle := .idle, busEnd := none }
    command := 0#32
    arg := 0#32
    cmdStatus := resetCmdStatus
    chans := Four.all resetChannel
    stream := { beat := none, rot := 3, beatCh := 0, srq := Four.all false }
    retention := { state := .normal, unsettled := 0, req := false }
    log := { records := [], nextSeq := 0#8, overflow := 0 }
    events := { sticky := 0#17, enable := 0#17 }
    ties := 0 }

end Sys2Proof.Machine
end

