-- ==== Sys2Proof/Machine/Operands.lean ====
section
/-! DEFINITION. Operands.lean: every form an operand takes: the parts of an address (R1), the values commands read from COMMAND
and ARG (R186), the fields of CONFIG and CONFIG2 (R185), and the descriptor and write-back word (12.5). -/

namespace Sys2Proof.Machine

/-! ### Addresses (0.4, R1) -/

/-- The bank of a word: byte address bits 23:22. -/
def bankOf (w : WordAddr) : BankNo := (w.extractLsb' 20 2).toFin

/-- The row of a word in its bank: byte address bits 21:11. -/
def rowOf (w : WordAddr) : RowNo := w.extractLsb' 9 11

/-- The column of a word in its row: byte address bits 10:2. -/
def columnOf (w : WordAddr) : Nat := (w.extractLsb' 0 9).toNat

/-- The global group number of a word: byte address bits 23:14. -/
def groupOf (w : WordAddr) : Nat := (w.extractLsb' 12 10).toNat

/-- The words left in the row of `w`, `w` included (R121). -/
def wordsLeftInRow (w : WordAddr) : Nat := Config.rowWords - columnOf w

/-- The bank of a global group number (0.4). -/
def bankOfGroup (g : Nat) : BankNo := (BitVec.ofNat 2 (g / 256)).toFin

/-- The global group number of group-in-bank `k` of bank `b` (R1). -/
def globalGroup (b : BankNo) (k : BitVec 8) : Nat := b.val * 256 + k.toNat

/-- The first word of a group: byte address group × 0x4000 (0.4). -/
def groupBase (g : Nat) : WordAddr := BitVec.ofNat 22 (g * 4096)

/-- The first word of fill segment `s` of group `g`: group base + 0x800 × (s ÷ 8) + 0x100 × (s mod 8) bytes (R31). -/
def fillSegmentBase (g s : Nat) : WordAddr := BitVec.ofNat 22 (g * 4096 + 512 * (s / 8) + 64 * (s % 8))

/-- The first word of segment `seg` of row `row` of bank `b` (R90). -/
def scrubSegmentBase (b : BankNo) (row : RowNo) (seg : BitVec 5) : WordAddr :=
  BitVec.ofNat 22 (b.val * 1048576 + row.toNat * 512 + seg.toNat * 16)

/-- The global group number of row `row` of bank `b`. -/
def groupOfRow (b : BankNo) (row : RowNo) : Nat := b.val * 256 + row.toNat / 8

/-- Word 0 of the descriptor at `d`. -/
def descWord (d : DescAddr) : WordAddr := d ++ 0#2

/-- The words of a burst of `n` words from `w`, in ascending column order (R15, R16). -/
def burstAddrs (w : WordAddr) (n : Nat) : List WordAddr := (List.range n).map fun k => w + BitVec.ofNat 22 k

/-- The word address of a byte address held in a 32-bit descriptor word or register. -/
def wordAddrOf (x : Word) : WordAddr := x.extractLsb' 2 22

/-! ### Commands (R186) -/

/-- The command code: COMMAND bits 7:0. -/
def commandCode (w : Word) : BitVec 8 := w.setWidth 8

/-- The channel number: COMMAND bits 9:8. -/
def commandChannel (w : Word) : ChanNo := (w.extractLsb' 8 2).toFin

/-- FIRST of FILL and RELEASE: ARG bits 15:0. -/
def argFirst (arg : Word) : Nat := (arg.extractLsb' 0 16).toNat

/-- COUNT of FILL and RELEASE: ARG bits 31:16. -/
def argCount (arg : Word) : Nat := (arg.extractLsb' 16 16).toNat

/-- Condition 1 of R27 and R37: the run lies within the 1024 groups. -/
def runInRange (first count : Nat) : Bool :=
  first ≤ 1023 && 1 ≤ count && count ≤ 1024 && first + count ≤ 1024

/-- The groups of a run. -/
def runGroups (first count : Nat) : List Nat := (List.range count).map (first + ·)

/-- ARG as a bank number, when it is 0 to 3 (R4, R7). -/
def argBank (arg : Word) : Option BankNo := if arg.toNat < 4 then some (arg.extractLsb' 0 2).toFin else none

/-- ARG as a descriptor address, when bits 3:0 and 31:24 are zero (R137). -/
def argDesc (arg : Word) : Option DescAddr :=
  if arg.extractLsb' 0 4 = 0#4 ∧ arg.extractLsb' 24 8 = 0#8 then some (arg.extractLsb' 4 20) else none

/-- The word written to COMMAND for a command without a channel number. -/
def commandWord (upper : BitVec 24) (code : BitVec 8) : Word := upper ++ code

/-- The word written to COMMAND for channel command `code` of channel `n`. -/
def channelCommandWord (upper : BitVec 22) (n : ChanNo) (code : BitVec 8) : Word :=
  (upper ++ BitVec.ofFin (w := 2) n : BitVec 24) ++ code

/-! ### Configuration fields (R185, 12.2) -/

/-- `x` brought into the range `lo` to `hi` (R22). -/
def clamp (lo hi x : Nat) : Nat := max lo (min hi x)

/-- The fields of a word written to CONFIG; SCRUB_RATE 9 to 15 is stored as 8 (R91). -/
def configFields (x : Word) : ConfigReg :=
  { tickdiv := x.extractLsb' 0 8
    hold := x.extractLsb' 8 6
    cwb := x.getLsbD 15
    weakThreshold := x.extractLsb' 16 4
    scrubRate := min 8 (x.extractLsb' 20 4).toNat }

/-- The ARRAY_TIMING fields of a word written to CONFIG2, each brought into its range (R22). -/
def timingFields (x : Word) : Timing :=
  { tOpen := clamp 2 15 (x.extractLsb' 4 4).toNat
    tCol := clamp 1 4 (x.extractLsb' 8 3).toNat
    tClose := clamp 2 15 (x.extractLsb' 12 4).toNat
    tRef := clamp 4 63 (x.extractLsb' 16 6).toNat
    tSrx := clamp 16 1023 (x.extractLsb' 22 10).toNat }

/-- The tick period in MCLK periods; a TICKDIV of 0 counts as 1 (R42). -/
def tickPeriod (c : ConfigReg) : Nat := max 1 c.tickdiv.toNat * Config.tickUnit

/-! ### Descriptors (R115, 12.5) -/

/-- OWN of a descriptor's word 0. -/
def descOwn (w0 : Word) : Bool := w0.getLsbD 31

/-- OP of a descriptor's word 0; codes 4 to 7 are invalid. -/
def descOp (w0 : Word) : Option ChanOp :=
  match (w0.extractLsb' 28 3).toNat with
  | 0 => some .copy
  | 1 => some .pattern
  | 2 => some .streamIn
  | 3 => some .streamOut
  | _ => none

/-- The code of OP in word 0. -/
def opCode (o : ChanOp) : BitVec 3 :=
  match o with
  | .copy => 0#3
  | .pattern => 1#3
  | .streamIn => 2#3
  | .streamOut => 3#3

/-- COUNT of a descriptor's word 0. -/
def descCount (w0 : Word) : Nat := (w0.extractLsb' 0 16).toNat

/-- SRC is used by COPY and STREAM_OUT (R119). -/
def usesSrc (o : ChanOp) : Bool :=
  match o with
  | .copy | .streamOut => true
  | .pattern | .streamIn => false

/-- DST is used by COPY, PATTERN and STREAM_IN (R119). -/
def usesDst (o : ChanOp) : Bool :=
  match o with
  | .copy | .pattern | .streamIn => true
  | .streamOut => false

/-- Step 2 of R119 for one word address. -/
def wordAligned (x : Word) : Bool := x.extractLsb' 0 2 == 0#2

/-- Step 3 of R119 for the range of `count` words from byte address `x`. -/
def rangeFits (x : Word) (count : Nat) : Bool := x.extractLsb' 24 8 == 0#8 && x.toNat + 4 * count ≤ 2 ^ 24

/-- Step 4 of R119: the two ranges of `count` words have a word in common. -/
def rangesMeet (a b : Word) (count : Nat) : Bool := a.toNat < b.toNat + 4 * count && b.toNat < a.toNat + 4 * count

/-- Step 5 of R119: the destination range lies inside the fence window. -/
def insideFence (base limit : WordAddr) (dst : Word) (count : Nat) : Bool :=
  4 * base.toNat ≤ dst.toNat && dst.toNat + 4 * count ≤ 4 * limit.toNat + 4

/-- The five steps of R119 in their order, for the words 0 to 3 of a descriptor with OWN 1: the fault of the first that
fails, or the operation. -/
def validateDescriptor (base limit : WordAddr) (w0 w1 w2 w3 : Word) : FaultCode ⊕ ChanOp :=
  match descOp w0 with
  | none => .inl .descField
  | some o =>
    let last := w0.getLsbD 26
    let count := descCount w0
    if w0.extractLsb' 16 9 ≠ 0#9 ∨ count = 0 then .inl .descField
    else if (usesSrc o && !wordAligned w1) || (usesDst o && !wordAligned w2) || (!last && w3.extractLsb' 0 4 != 0#4) then
      .inl .descAlign
    else if (usesSrc o && !rangeFits w1 count) || (usesDst o && !rangeFits w2 count)
        || (!last && w3.extractLsb' 24 8 != 0#8) then .inl .range
    else if o == .copy && rangesMeet w1 w2 count then .inl .overlap
    else if usesDst o && !insideFence base limit w2 count then .inl .fence
    else .inr o

/-- The working descriptor that R120 installs. -/
def installedWork (o : ChanOp) (w0 w1 w2 w3 : Word) : Work :=
  { op := o
    note := w0.getLsbD 27
    last := w0.getLsbD 26
    wb := w0.getLsbD 25
    count := descCount w0
    word1 := w1
    word2 := w2
    word3 := w3
    src := wordAddrOf w1
    dst := wordAddrOf w2
    unread := if usesSrc o then descCount w0 else 0 }

/-- The outcome field of the write-back word (12.5). -/
def outcomeCode (o : DescOutcome) : BitVec 2 :=
  match o with
  | .complete => 1#2
  | .short => 2#2
  | .aborted => 3#2

/-- The write-back word (R128, 12.5): OWN 0; OP, NOTE, LAST and WB as fetched; the outcome in bits 21:20; the transferred
count in bits 15:0. -/
def writebackWord (w : Work) (o : DescOutcome) (transferred : Nat) : Word :=
  (0#1 ++ opCode w.op ++ BitVec.ofBool w.note ++ BitVec.ofBool w.last ++ BitVec.ofBool w.wb ++ 0#3 ++ outcomeCode o
    ++ 0#4 ++ BitVec.ofNat 16 transferred : BitVec 32)

end Sys2Proof.Machine
end

