-- ==== Sys2Proof/Machine/Ops.lean ====
section
/-! DEFINITION. Ops.lean: the operations every block is written over: sparse tables in canonical form (the array and the
Row Group Table), the parts of the state by bank and by channel, the questions several blocks ask, and the order of happenings that
come together. -/

namespace Sys2Proof.Machine

/-! ### Sparse tables

A table of `α` by number is the list of its entries that differ from `blank`, numbers strictly rising. -/

/-- The entry at `k`: the listed one, else `blank`. -/
def tableRead {α : Type} (blank : α) : List (Nat × α) → Nat → α
  | [], _ => blank
  | (j, x) :: t, k => if j = k then x else tableRead blank t k

/-- The table with the entry at `k` replaced by `v`, in canonical form again: writing `blank` removes the entry. -/
def tableWrite {α : Type} [DecidableEq α] (blank : α) : List (Nat × α) → Nat → α → List (Nat × α)
  | [], k, v => if v = blank then [] else [(k, v)]
  | (j, x) :: t, k, v =>
    if k < j then (if v = blank then (j, x) :: t else (k, v) :: (j, x) :: t)
    else if k = j then (if v = blank then t else (k, v) :: t)
    else (j, x) :: tableWrite blank t k v

/-- The canonical form: numbers strictly rising, and no entry equal to what an unlisted number reads as. -/
abbrev TableWf {α : Type} (blank : α) (t : List (Nat × α)) : Prop :=
  t.Pairwise (fun a b => a.1 < b.1) ∧ ∀ e ∈ t, e.2 ≠ blank

/-- What an unlisted word of the array reads as: zero data with zero check bits (DESIGN CHOICE, log entry 10). -/
def blankWord : Stored := { data := 0#32, check := 0#7 }

/-- What an unlisted group of the Row Group Table is: DISCARD with a weak count of 0 (R23). -/
def blankGroup : Group := { state := .discard, weak := 0 }

/-- The stored word at `w`. -/
def State.word (s : State) (w : WordAddr) : Stored := tableRead blankWord s.array w.toNat

/-- The state with the stored word at `w` replaced. -/
def State.setWord (s : State) (w : WordAddr) (x : Stored) : State :=
  { s with array := tableWrite blankWord s.array w.toNat x }

/-- The state with the words `xs` stored from `w` upward (R16). -/
def State.setWords (s : State) (w : WordAddr) (xs : List Stored) : State :=
  match xs with
  | [] => s
  | x :: rest => State.setWords (s.setWord w x) (w + 1#22) rest

/-- The Row Group Table entry of group `g` (R23). -/
def State.group (s : State) (g : Nat) : Group := tableRead blankGroup s.groups g

/-- The state with the Row Group Table entry of group `g` replaced. -/
def State.setGroup (s : State) (g : Nat) (x : Group) : State :=
  { s with groups := tableWrite blankGroup s.groups g x }

/-- The state with group `g` in `st`, its weak count kept (R26). -/
def State.setGroupState (s : State) (g : Nat) (st : GroupState) : State :=
  s.setGroup g { s.group g with state := st }

/-- The canonical form of both tables. -/
abbrev State.tablesWf (s : State) : Prop := TableWf blankWord s.array ∧ TableWf blankGroup s.groups

/-! ### The parts of the state -/

def State.bank (s : State) (b : BankNo) : Bank := s.banks.get b
def State.arb (s : State) (b : BankNo) : Arbiter := s.arbs.get b
def State.account (s : State) (b : BankNo) : RefreshAccount := s.refresh.get b
def State.chan (s : State) (n : ChanNo) : Channel := s.chans.get n

def State.setBank (s : State) (b : BankNo) (x : Bank) : State := { s with banks := s.banks.set b x }
def State.setArb (s : State) (b : BankNo) (x : Arbiter) : State := { s with arbs := s.arbs.set b x }
def State.setAccount (s : State) (b : BankNo) (x : RefreshAccount) : State := { s with refresh := s.refresh.set b x }
def State.setChan (s : State) (n : ChanNo) (x : Channel) : State := { s with chans := s.chans.set n x }

/-! ### Questions about the state -/

/-- The bank is READY (R24). -/
def State.isReady (s : State) (b : BankNo) : Bool := (s.bank b).state == .ready

/-- The bank is READY and free (1.2). -/
def State.isFree (s : State) (b : BankNo) : Bool := s.isReady b && (s.bank b).op.isNone

/-- The group of word `w` is accessible: KEEP, in a READY bank (R24). -/
def State.accessible (s : State) (w : WordAddr) : Bool :=
  (s.group (groupOf w)).state == .keep && s.isReady (bankOf w)

/-- A group needs refresh when it is KEEP or FILLING (R25). -/
def State.needsRefresh (s : State) (g : Nat) : Bool :=
  match (s.group g).state with
  | .keep | .filling => true
  | .discard | .fillPending | .lapsed => false

/-- Each of the bank's 256 groups is DISCARD or LAPSED (R7, R25). -/
def State.maySwitchOff (s : State) (b : BankNo) : Bool :=
  (List.range 256).all fun k =>
    match (s.group (b.val * 256 + k)).state with
    | .discard | .lapsed => true
    | .fillPending | .filling | .keep => false

/-- Some group of the bank is KEEP, FILL_PENDING or FILLING (R25). -/
def State.holdsData (s : State) (b : BankNo) : Bool := !s.maySwitchOff b

/-- The retention states in which commands, memory cycles and channels are served: NORMAL and DENIED (R99, R112). -/
def State.inService (s : State) : Bool :=
  match s.retention.state with
  | .normal | .denied => true
  | .quiescing | .entering | .retained | .waking => false

/-- The channel an operation or a request belongs to. -/
def OpKind.channel (k : OpKind) : Option ChanNo :=
  match k with
  | .fetch n | .dataRead n | .dataWrite n | .writeback n => some n
  | _ => none

/-- A column operation: a READ burst, a WRITE burst or a MERGE (1.5). -/
def OpKind.isColumn (k : OpKind) : Bool :=
  match k with
  | .hostRead | .hostWrite | .hostMerge | .fetch _ | .dataRead _ | .dataWrite _ | .writeback _
  | .fillSegment | .scrubSegment => true
  | .refresh | .close | .wake | .selfRefreshEntry | .powerDown | .selfRefreshExit => false

/-- A data operation of a channel, not a fetch and not a write-back (R134). -/
def OpKind.isData (k : OpKind) : Bool :=
  match k with
  | .dataRead _ | .dataWrite _ => true
  | _ => false

/-- Some bank has an operation in flight with property `p`. -/
def State.anyOp (s : State) (p : Op → Bool) : Bool :=
  Four.indices.any fun b => (s.bank b).op.any p

/-- Channel `n` has an operation in flight with property `p`. -/
def State.chanOp (s : State) (n : ChanNo) (p : Op → Bool) : Bool :=
  s.anyOp fun o => o.kind.channel == some n && p o

/-- The request channel `n` has pending, if any (R121: at most one). -/
def State.chanRequest (s : State) (n : ChanNo) : Option Request :=
  Four.indices.findSome? fun b => (s.arb b).ch.get n

/-- A stream beat of channel `n` is in progress. -/
def State.beatOf (s : State) (n : ChanNo) : Bool := s.stream.beat.any fun x => x.ch == n

/-- The pause-reason set is not empty (R134). -/
def Pauses.any (p : Pauses) : Bool := p.host || p.retention || p.unowned

/-- The empty pause-reason set. -/
def noPauses : Pauses := ⟨false, false, false⟩

/-- A REFRESH of the bank is in flight (ACTIVE of R46). -/
def State.refreshing (s : State) (b : BankNo) : Bool := (s.bank b).op.any fun o => o.kind == .refresh

/-- The group number under the bank's refresh cursor (R45). -/
def State.cursorGroup (s : State) (b : BankNo) : Nat := globalGroup b (s.account b).cursor

/-! ### Happenings that come together -/

/-- The members of `l` in the order in which they are taken when the spec names none (log entry 9): each next one is chosen
by Config.together, the counter `t` rising with every choice. A list of one member needs no choice. -/
def togetherOrder {α : Type} : Nat → Nat → List α → List α
  | 0, _, l => l
  | fuel + 1, t, l =>
    if l.length ≤ 1 then l
    else
      let i := Config.together t % l.length
      match l[i]? with
      | some x => x :: togetherOrder fuel (t + 1) (l.eraseIdx i)
      | none => l

/-- `f` carried out for each member of `l`, in an order the spec leaves open. -/
def State.forTogether {α : Type} (s : State) (l : List α) (f : α → State → State) : State :=
  if l.length ≤ 1 then l.foldl (fun t x => f x t) s
  else
    (togetherOrder l.length s.ties l).foldl (fun t x => f x t) { s with ties := s.ties + l.length }

end Sys2Proof.Machine
end

