-- ==== Sys2Proof/Machine/Flags.lean ====
section
/-! DEFINITION. Flags.lean: the event flags and INT (R182, R183), the error log (R175 to R181), and the refresh urgency (R52). -/

namespace Sys2Proof.Machine

/-! ### Event flags -/

/-- The sticky events (11.7). -/
inductive Event where
  | attn (n : ChanNo) | stop (n : ChanNo)
  | logOvf | lapse | weak | fillDone | bankReady | retDenied | retExit | refused
  deriving DecidableEq, Repr

/-- The position of an event in EVENT_FLAGS and EVENT_ENABLE (12.3). Position 8 is LOG. -/
def eventBit (e : Event) : Nat :=
  match e with
  | .attn n => n.val
  | .stop n => 4 + n.val
  | .logOvf => 9
  | .lapse => 10
  | .weak => 11
  | .fillDone => 12
  | .bankReady => 13
  | .retDenied => 14
  | .retExit => 15
  | .refused => 16

/-- The flag of `e` is set; a cause that finds it set leaves it set (R182). -/
def State.raise (s : State) (e : Event) : State :=
  { s with events := { s.events with sticky := s.events.sticky ||| (1#17 <<< eventBit e) } }

/-- All flags: the sticky ones, and LOG as the level of a log that is not empty (R182). -/
def State.eventFlags (s : State) : BitVec 17 :=
  s.events.sticky ||| (if s.log.records.isEmpty then 0#17 else 1#17 <<< 8)

/-- INT is asserted exactly when some flag and its enable are both set (R183). -/
def State.int (s : State) : Bool := s.eventFlags &&& s.events.enable != 0#17

/-! ### The error log -/

/-- The record that coalescing of R178 makes of the newest record `r`. -/
def coalesced (r : Record) : Record := { r with repeats := min Config.countCap (r.repeats + 1) }

/-- A CORRECTED finding for the word of the newest record, itself CORRECTED, is coalesced (R178). -/
def coalesces (l : ErrorLog) (f : Finding) : Bool :=
  f.kind == .corrected &&
    match l.records.getLast? with
    | some r => r.finding.kind == .corrected && r.finding.addr == f.addr
    | none => false

/-- A finding handed to the log: coalesced (R178), dropped from a full log (R179), or a new record (R177). -/
def State.hand (s : State) (f : Finding) : State :=
  if coalesces s.log f then
    { s with log := { s.log with
        records := s.log.records.dropLast ++ (s.log.records.getLast?.map coalesced).toList } }
  else if Config.logDepth ≤ s.log.records.length then
    { s with log := { s.log with
        nextSeq := s.log.nextSeq + 1#8, overflow := min 255 (s.log.overflow + 1) } }.raise .logOvf
  else
    { s with log := { s.log with
        records := s.log.records ++ [{ finding := f, seq := s.log.nextSeq, repeats := 0 }]
        nextSeq := s.log.nextSeq + 1#8 } }

/-- A finding of the check unit about one word (R83, R86, R87). -/
def wordFinding (kind : RecordKind) (source : Source) (w : WordAddr) (y : Syndrome) : Finding :=
  { kind := kind, source := source, addr := some w, group := none, syndrome := some y, desc := none, fault := .none }

/-- A LAPSE or WEAK finding (R50, R85). -/
def groupFinding (kind : RecordKind) (source : Source) (g : Nat) : Finding :=
  { kind := kind, source := source, addr := none, group := some (BitVec.ofNat 10 g), syndrome := none, desc := none,
    fault := .none }

/-- The WRITE_FAILED finding of the host port (R105). -/
def writeFailedFinding (w : WordAddr) (code : FaultCode) : Finding :=
  { kind := .writeFailed, source := .host, addr := some w, group := none, syndrome := none, desc := none, fault := code }

/-- The CHANNEL_FAULT finding of channel `n` (R147). -/
def channelFinding (n : ChanNo) (code : FaultCode) (desc : DescAddr) (w : Option WordAddr) : Finding :=
  { kind := .channelFault, source := .ch n, addr := w, group := none, syndrome := none, desc := some desc, fault := code }

/-! ### Refresh urgency -/

/-- The urgencies (R52). -/
inductive Urgency where
  | none | opportunistic | background | normal | urgent
  deriving DecidableEq, Repr

/-- The urgency a balance gives (R52). -/
def urgencyOf (balance : Int) : Urgency :=
  if balance ≤ -4 then .none
  else if balance ≤ 0 then .opportunistic
  else if balance ≤ 4 then .background
  else if balance ≤ 6 then .normal
  else .urgent

/-- URGENCY of REF_STATUS: that of the balance, NONE for a bank that is not READY (R46). -/
def State.urgency (s : State) (b : BankNo) : Urgency :=
  if s.isReady b then urgencyOf (s.account b).balance else .none

/-- The REFRESH request of the bank, by its urgency: present while the bank is READY, its balance is above −4, and no
REFRESH of it is in flight (R51); NONE stands for no request. -/
def State.refreshRequest (s : State) (b : BankNo) : Urgency :=
  if s.refreshing b then .none else s.urgency b

end Sys2Proof.Machine
end

