-- ==== Sys2Proof/Machine/CheckUnit.lean ====
section
/-! DEFINITION. CheckUnit.lean: the check code (R79 to R81), what the check unit does with the words of a READ burst (R82 to R86)
and of a MERGE (R87), and the weak counts (R85). -/

namespace Sys2Proof.Machine

/-! ### The code -/

/-- The Hamming positions of D0 to D31 in order: the numbers from 3 to 38 that are not powers of two (R79). -/
def dataPositions : List Nat := (List.range 39).filter fun p => 3 ≤ p && p != 4 && p != 8 && p != 16 && p != 32

/-- The exclusive-OR of the positions of the data bits that are 1: C5 to C0 read as a number (R79). -/
def positionXor (d : Word) : BitVec 6 :=
  dataPositions.zipIdx.foldl (fun acc pi => if d.getLsbD pi.2 then acc ^^^ BitVec.ofNat 6 pi.1 else acc) 0#6

/-- The exclusive-OR of all bits. -/
def parity {n : Nat} (x : BitVec n) : Bool := (List.range n).foldl (fun acc i => Bool.xor acc (x.getLsbD i)) false

/-- The check bits of a data word: C0 to C5 by position, C6 the exclusive-OR of all other bits (R79). -/
def checkBitsOf (d : Word) : CheckBits :=
  BitVec.ofBool (Bool.xor (parity d) (parity (positionXor d))) ++ positionXor d

/-- A word with its computed check bits (R80). -/
def encodeWord (d : Word) : Stored := { data := d, check := checkBitsOf d }

/-- The syndrome of a stored word (R81): S from the stored and the recomputed C0 to C5, P from all 39 bits. -/
def syndromeOf (x : Stored) : Syndrome :=
  { s := x.check.setWidth 6 ^^^ positionXor x.data
    p := Bool.xor (parity x.data) (parity x.check) }

/-- The class of a word read, with the data delivered (R81). -/
inductive ReadClass where
  | clean (d : Word)
  | corrected (d : Word)
  | uncorrectable
  deriving DecidableEq, Repr

/-- The table of R81. A syndrome that is the position of a data bit inverts that bit; one that is 0 or a power of two
stands for a check bit and leaves the data as stored. -/
def classify (x : Stored) : ReadClass :=
  let y := syndromeOf x
  if !y.p then (if y.s = 0#6 then .clean x.data else .uncorrectable)
  else if 39 ≤ y.s.toNat then .uncorrectable
  else if dataPositions.contains y.s.toNat then
    .corrected (x.data ^^^ (1#32 <<< dataPositions.idxOf y.s.toNat))
  else .corrected x.data

/-- The data delivered for a word, none for an uncorrectable one. -/
def ReadClass.data (c : ReadClass) : Option Word :=
  match c with
  | .clean d | .corrected d => some d
  | .uncorrectable => none

/-! ### Findings and weak counts -/

/-- A corrected word in group `g`: the weak count of a KEEP group rises by 1, saturating at 15, and a rise to
WEAK_THRESHOLD hands a WEAK finding and raises WEAK (R85). -/
def State.weakRise (s : State) (source : Source) (g : Nat) : State :=
  let e := s.group g
  if e.state = .keep ∧ e.weak < Config.countCap then
    let t := s.setGroup g { e with weak := e.weak + 1 }
    if e.weak + 1 = s.config.weakThreshold.toNat then (t.hand (groupFinding .weak source g)).raise .weak else t
  else s

/-- One word of a READ burst at its completion: a corrected word is written back when `writeBack` (R84), its CORRECTED
finding is handed, and its weak count rises (R83, R85); an uncorrectable word gives its finding and stays (R86). -/
def State.checkRead (s : State) (source : Source) (writeBack : Bool) (w : WordAddr) : State :=
  let x := s.word w
  match classify x with
  | .clean _ => s
  | .corrected d =>
    let t := if writeBack then s.setWord w (encodeWord d) else s
    (t.hand (wordFinding .corrected source w (syndromeOf x))).weakRise source (groupOf w)
  | .uncorrectable => s.hand (wordFinding .uncorrectable source w (syndromeOf x))

/-- The words of a READ burst, checked in ascending column order (R82). -/
def State.checkBurst (s : State) (source : Source) (writeBack : Bool) (ws : List WordAddr) : State :=
  ws.foldl (fun t w => t.checkRead source writeBack w) s

/-- The classes of the words of a burst, in column order (R15). -/
def State.burstClasses (s : State) (ws : List WordAddr) : List ReadClass := ws.map fun w => classify (s.word w)

/-- The data of a burst with no uncorrectable word, none for a burst with one. -/
def State.burstData (s : State) (ws : List WordAddr) : Option (List Word) :=
  (s.burstClasses ws).mapM ReadClass.data

/-- The lowest uncorrectable word of a burst (R147). -/
def State.firstUncorrectable (s : State) (ws : List WordAddr) : Option WordAddr :=
  ws.find? fun w => classify (s.word w) == .uncorrectable

/-- How many words of the burst are corrected (R22). -/
def State.correctedCount (s : State) (ws : List WordAddr) : Nat :=
  ws.countP fun w => match classify (s.word w) with
    | .corrected _ => true
    | _ => false

/-! ### MERGE (R87) -/

/-- `old` with byte lane i replaced by that of `new` wherever byte enable i is set. -/
def mergeLanes (old new : Word) (lanes : BitVec 4) : Word :=
  let mask : Word :=
    (if lanes.getLsbD 0 then 0x000000FF#32 else 0#32) ||| (if lanes.getLsbD 1 then 0x0000FF00#32 else 0#32) |||
    (if lanes.getLsbD 2 then 0x00FF0000#32 else 0#32) ||| (if lanes.getLsbD 3 then 0xFF000000#32 else 0#32)
  (old &&& ~~~mask) ||| (new &&& mask)

/-- The check unit's part of a MERGE of `data` in `lanes` at `w`: the merged word is written with computed check bits,
a corrected word is reported; an uncorrectable word stays, with a MERGE_FAILED finding. -/
def State.mergeWord (s : State) (w : WordAddr) (lanes : BitVec 4) (data : Word) : State :=
  let x := s.word w
  match classify x with
  | .clean d => s.setWord w (encodeWord (mergeLanes d data lanes))
  | .corrected d =>
    let t := s.setWord w (encodeWord (mergeLanes d data lanes))
    (t.hand (wordFinding .corrected .host w (syndromeOf x))).weakRise .host (groupOf w)
  | .uncorrectable => s.hand (wordFinding .mergeFailed .host w (syndromeOf x))

end Sys2Proof.Machine
end

