-- ==== Sys2Proof/Machine/Sequencer.lean ====
section
/-! DEFINITION. Sequencer.lean: the bank sequencer's own work (chapter 1): starting and finishing an operation, the Open Row Table,
the page-hold timer, and the durations of the operations (R22). -/

namespace Sys2Proof.Machine

/-! ### Durations (R22) -/

/-- The periods of a column operation of `accesses` word accesses known at its start: T_COL per access, T_OPEN when the row
must be opened, T_CLOSE when another row must be closed first. -/
def columnPeriods (t : Timing) (openRow : Option RowNo) (row : RowNo) (accesses : Nat) : Nat :=
  accesses * t.tCol +
    match openRow with
    | none => t.tOpen
    | some r => if r = row then 0 else t.tClose + t.tOpen

/-- The periods of an operation known at its start. -/
def startPeriods (t : Timing) (openRow : Option RowNo) (kind : OpKind) (addr : WordAddr) (words : Nat) : Nat :=
  let closing := if openRow.isSome then t.tClose else 0
  match kind with
  | .hostMerge => columnPeriods t openRow (rowOf addr) 2
  | .hostRead | .hostWrite | .fetch _ | .dataRead _ | .dataWrite _ | .writeback _ | .fillSegment | .scrubSegment =>
    columnPeriods t openRow (rowOf addr) words
  | .refresh => closing + 8 * t.tRef
  | .wake => 8 * (t.tOpen + t.tClose)
  | .selfRefreshEntry | .powerDown => closing + t.tClose
  | .selfRefreshExit => t.tSrx
  | .close => t.tClose

/-- A READ burst that writes its corrected words back: under CWB as at its start, and always for a scrub segment (R84). -/
def Op.writesBack (o : Op) : Bool :=
  match o.kind with
  | .scrubSegment => true
  | .hostRead | .fetch _ | .dataRead _ => o.cwb
  | _ => false

/-- All the periods of an operation: those known at its start, one word access for each corrected word written back, and
T_CLOSE for the close that HOLD 0 makes the last step of a column operation (R12, R22). -/
def State.totalPeriods (s : State) (o : Op) : Nat :=
  o.periods
    + (if o.writesBack then s.correctedCount (burstAddrs o.addr o.words) * o.timing.tCol else 0)
    + (if o.kind.isColumn && s.config.hold == 0#6 then o.timing.tClose else 0)

/-! ### Rows -/

/-- The open row of `b`, if any, closes: the entry becomes none, the page-hold timer stops, and the arbiter, told of it,
sets the streak count to 0 (R11, R69). -/
def State.closeRow (s : State) (b : BankNo) : State :=
  let k := s.bank b
  let t := s.setBank b { k with openRow := none, holdTimer := none }
  if k.openRow.isSome then t.setArb b { s.arb b with streak := 0 } else t

/-! ### Starting an operation -/

/-- An operation as it stands at its start at bank `b`. -/
def State.newOp (s : State) (b : BankNo) (kind : OpKind) (addr : WordAddr) (words : Nat) (payload : List Stored) : Op :=
  { kind := kind
    addr := addr
    words := words
    payload := payload
    cwb := s.config.cwb
    residual := false
    timing := s.timing
    periods := startPeriods s.timing (s.bank b).openRow kind addr words
    elapsed := 0 }

/-- A column operation begins: its row is the open row from its start (R11), and the page-hold timer is cancelled (R14). -/
def State.startColumn (s : State) (b : BankNo) (kind : OpKind) (addr : WordAddr) (words : Nat) (payload : List Stored) :
    State :=
  s.setBank b { s.bank b with
    op := some (s.newOp b kind addr words payload), openRow := some (rowOf addr), holdTimer := none }

/-- An operation begins that closes any open row as its first step: REFRESH, CLOSE, the ENTRY and the POWER-DOWN; WAKE and the
EXIT find no open row (R11). The page-hold timer is cancelled (R14). -/
def State.startClosed (s : State) (b : BankNo) (kind : OpKind) (addr : WordAddr) : State :=
  let o := s.newOp b kind addr 0 []
  let t := s.closeRow b
  t.setBank b { t.bank b with op := some o }

/-! ### Finishing an operation -/

/-- The operation of `b` is over; nothing else changes (R9). -/
def State.clearOp (s : State) (b : BankNo) : State := s.setBank b { s.bank b with op := none }

/-- A column operation completes (R12): with HOLD 0, or with a switch-off waiting, the row closes and no timer starts; else the
row stays open and the page-hold timer starts. HOLD is read now, at the completion, as R12 says; that this holds for an operation of the host
write queue too, of which R106 says that a new HOLD applies to those that begin after the write, is a DESIGN CHOICE (log entry 27). -/
def State.finishColumn (s : State) (b : BankNo) : State :=
  let t := s.clearOp b
  if s.config.hold = 0#6 ∨ (s.bank b).offWaiting = true then t.closeRow b
  else t.setBank b { t.bank b with holdTimer := some { period := s.config.hold.toNat * Config.holdUnit, count := 0 } }

end Sys2Proof.Machine
end

