-- ==== Sys2Proof/Machine/Refresh.lean ====
section
/-! DEFINITION. Refresh.lean: the refresh account of a bank (chapter 3): the skipping rule (R55), what a completed REFRESH
settles (R54), and the restart of a fill (R34), which an overrun causes. -/

namespace Sys2Proof.Machine

/-- The cursor of `b` moves one group on, from 255 to 0 (R45), and the balance changes by `d`. -/
def State.settleOne (s : State) (b : BankNo) (d : Int) : State :=
  let a := s.account b
  s.setAccount b { balance := a.balance + d, cursor := a.cursor + 1#8 }

/-- The condition of a skip (R55). -/
def State.skipDue (s : State) (b : BankNo) : Bool :=
  s.isReady b && decide (-4 < (s.account b).balance) && !s.refreshing b && !s.needsRefresh (s.cursorGroup b)

/-- At most `fuel` skips, one after another. -/
def State.skips (s : State) (b : BankNo) : Nat → State
  | 0 => s
  | fuel + 1 => if s.skipDue b then State.skips (s.settleOne b (-1)) b fuel else s

/-- The skipping rule (R55): the cursor passes over groups that need no refresh until it rests on one that does, or the
balance is −4. Each skip lowers the balance by 1, so balance + 4 skips always suffice. -/
def State.applySkip (s : State) (b : BankNo) : State := s.skips b ((s.account b).balance + 4).toNat

/-- The skipping rule at every bank. -/
def State.applySkips (s : State) : State := Four.indices.foldl (fun t b => t.applySkip b) s

/-- The balance and cursor of `b` are set (R57, R58, R60). -/
def State.setBalance (s : State) (b : BankNo) (balance : Int) (cursor : BitVec 8) : State :=
  s.setAccount b { balance := balance, cursor := cursor }

/-! ### The fill engine's request (R31, R34) -/

/-- The group the fill engine is filling: the head entry's next group, when FILLING (R29). -/
def State.fillingGroup (s : State) : Option Nat :=
  match s.fill.queue with
  | [] => none
  | e :: _ => if (s.group e.next).state = .filling then some e.next else none

/-- A fill segment is in flight. -/
def State.fillInFlight (s : State) : Bool := s.anyOp fun o => o.kind == .fillSegment

/-- A fill request is pending. -/
def State.fillPendingRequest (s : State) : Bool := Four.indices.any fun b => (s.arb b).fill.isSome

/-- The pending request of the fill engine is withdrawn (R73). -/
def State.withdrawFill (s : State) : State := { s with arbs := s.arbs.map fun a => { a with fill := none } }

/-- The fill engine's request for segment `seg` of group `g` is placed at its bank, or replaces the one pending there (R31,
R34). The bank of a FILLING group is READY (R30, R35); at any other bank the engine waits and places nothing. -/
def State.placeFill (s : State) (g seg : Nat) : State :=
  let b := bankOfGroup g
  if s.isReady b then
    s.setArb b { s.arb b with
      fill := some { kind := .fillSegment, addr := fillSegmentBase g seg, words := Config.fillSegmentWords } }
  else s

/-- The fill of group `g` restarts from segment 0 after an overrun (R34): a pending request is replaced by one for segment 0, a
segment in flight is marked. A group of an ending entry is left alone. -/
def State.restartFill (s : State) (g : Nat) : State :=
  if s.fillingGroup = some g ∧ s.fill.ending = false then
    let t := { s with fill := { s.fill with segment := 0, restart := s.fill.restart || s.fillInFlight } }
    if s.fillPendingRequest then t.placeFill g 0 else t
  else s

/-! ### Ticks (R47 to R50) -/

/-- Group `g` is sacrificed to an overrun (R48, R50): a KEEP group lapses, a FILLING group restarts its fill, and either
gives a LAPSE finding and the LAPSE event. A group in another state loses nothing (R49). -/
def State.sacrifice (s : State) (g : Nat) : State :=
  match (s.group g).state with
  | .keep => ((s.setGroupState g .lapsed).hand (groupFinding .lapse .refresh g)).raise .lapse
  | .filling => ((s.restartFill g).hand (groupFinding .lapse .refresh g)).raise .lapse
  | .discard | .fillPending | .lapsed => s

/-- The group a REFRESH in flight at `b` refreshes, if one is (R53). -/
def State.refreshedGroup (s : State) (b : BankNo) : Option Nat :=
  match (s.bank b).op with
  | some o => if o.kind = .refresh then some (groupOf o.addr) else none
  | none => none

/-- A refresh tick at bank `b`: a READY bank earns (R47) or overruns (R48, R49), a bank in INIT that has not begun WAKE
counts its settle wait (R5), any other bank does nothing. -/
def State.tickBank (s : State) (b : BankNo) : State :=
  let k := s.bank b
  let a := s.account b
  match k.state with
  | .ready =>
    if a.balance < 8 then (s.setAccount b { a with balance := a.balance + 1 }).applySkip b
    else
      match s.refreshedGroup b with
      | some g => s.sacrifice g
      | none => ((s.sacrifice (s.cursorGroup b)).settleOne b 0).applySkip b
  | .init =>
    if k.op.isNone && k.settle < Config.settleTicks then s.setBank b { k with settle := k.settle + 1 } else s
  | .off | .entering | .retained | .dormant | .exiting => s

end Sys2Proof.Machine
end

