-- ==== Sys2Proof/Machine/FillEngine.lean ====
section
/-! DEFINITION. FillEngine.lean: the fill queue and the fill engine (chapter 2, R27 to R41). -/

namespace Sys2Proof.Machine

/-- The engine's state as FILL_STATUS shows it, coded 0 IDLE, 1 WAIT, 2 RUN, 3 HELD (R36, 12.3). -/
def State.engineCode (s : State) : Nat :=
  if s.fill.held then 3 else if s.fill.queue.isEmpty then 0 else if s.fillingGroup.isSome then 2 else 1

/-- The groups `gs` are put in state `st`, weak counts kept (R26, R28). -/
def State.markGroups (s : State) (gs : List Nat) (st : GroupState) : State :=
  gs.foldl (fun t g => t.setGroupState g st) s

/-- The groups of `gs` in one of the states `from` become DISCARD with a weak count of 0 (R7, R26, R37, R40). -/
def State.discardGroups (s : State) (gs : List Nat) (from_ : List GroupState) : State :=
  gs.foldl (fun t g => if from_.contains (t.group g).state then t.setGroup g blankGroup else t) s

/-- The four conditions of R30: the queue is not empty, the engine not held, no segment in flight, and the bank of the head's next
group READY, that group still waiting to be taken up. An ending entry is not taken up (R40). -/
def State.takeUpDue (s : State) : Bool :=
  !s.fill.held && !s.fill.ending && !s.fillInFlight &&
    match s.fill.queue with
    | [] => false
    | e :: _ => (s.group e.next).state == .fillPending && s.isReady (bankOfGroup e.next)

/-- The engine takes the head entry's next group up (R30). -/
def State.takeUp (s : State) : State :=
  match s.fill.queue with
  | [] => s
  | e :: _ =>
    let t := s.setGroupState e.next .filling
    ({ t with fill := { t.fill with segment := 0, restart := false } } : State).placeFill e.next 0

/-- The current segment of the FILLING group is requested, unless the engine is held (R33, R34, R35). -/
def State.requestSegment (s : State) : State :=
  match s.fillingGroup with
  | some g => if s.fill.held then s else s.placeFill g s.fill.segment
  | none => s

/-- The head entry leaves the queue (R33, R40). -/
def State.dropFillHead (s : State) : State :=
  { s with fill := { s.fill with queue := s.fill.queue.tail, ending := false } }

/-- The group `g` of the head entry `e` has its last segment written (R33 steps 2 and 3): it becomes KEEP with a weak count of 0, and
the entry leaves when it was its last, with FILL_DONE when the queue is then empty. -/
def State.groupFilled (s : State) (e : FillEntry) (rest : List FillEntry) : State :=
  let t := s.setGroup e.next { state := .keep, weak := 0 }
  let e' := { e with next := e.next + 1 }
  if e'.next < e.first + e.count then { t with fill := { t.fill with queue := e' :: rest, segment := 0 } }
  else
    let u : State := { t with fill := { t.fill with queue := rest, segment := 0 } }
    if rest.isEmpty then u.raise .fillDone else u

/-- The fill segment `o` completes at bank `b` (R33, R34, R35, R40). After an ending entry the skipping rule applies before the engine takes up the
next head (R30, R55), so that a FILL_PENDING group of that head is skipped where the cursor meets it: DEDUCED, log entry 20. -/
def State.completeFill (s : State) (b : BankNo) (o : Op) : State :=
  let t := (s.setWords o.addr o.payload).finishColumn b
  match t.fill.queue with
  | [] => t
  | e :: rest =>
    if t.fill.ending then
      let u := (t.setGroup e.next blankGroup).dropFillHead
      ({ u with fill := { u.fill with segment := 0, restart := false } } : State).applySkip b
    else if t.fill.restart then
      ({ t with fill := { t.fill with segment := 0, restart := false } } : State).requestSegment
    else if t.fill.segment < Config.lastFillSegment then
      ({ t with fill := { t.fill with segment := t.fill.segment + 1 } } : State).requestSegment
    else t.groupFilled e rest

/-- The hold is applied (R35). -/
def State.holdFill (s : State) : State :=
  let t := s.withdrawFill
  { t with fill := { t.fill with held := true } }

/-- The hold is released (R35): with a FILLING group and no segment in flight its current segment is requested; otherwise the engine takes
the head entry's next group up when R30 lets it. -/
def State.releaseFill (s : State) : State :=
  let t : State := { s with fill := { s.fill with held := false } }
  if s.fill.held = true ∧ s.fillInFlight = false then
    if t.takeUpDue then t.takeUp else t.requestSegment
  else t

/-- Every FILL_PENDING group becomes DISCARD with a weak count of 0 (R40): its entry leaves the list. -/
def State.discardPending (s : State) : State :=
  { s with groups := s.groups.filter fun e => e.2.state != .fillPending }

/-- Soft reset at the group manager (R40): with a segment in flight the head is cut down to its group and marked ending; without
one a FILLING group becomes DISCARD; the queue is emptied otherwise. -/
def State.resetFill (s : State) : State :=
  let t := s.withdrawFill.discardPending
  match s.fill.queue, s.fillingGroup, s.fillInFlight with
  | e :: _, some g, true =>
    { t with fill := { t.fill with queue := [{ e with first := g, count := 1, next := g }], ending := true } }
  | _, some g, false =>
    let u := t.setGroup g blankGroup
    { u with fill := { u.fill with queue := [], ending := false, segment := 0, restart := false } }
  | _, _, _ => { t with fill := { t.fill with queue := [], ending := false, segment := 0, restart := false } }

/-- The failed check of a fill segment at its grant (R32): the engine acts as R40 states for a group without a segment in flight,
when the group is no longer FILLING (log entry 17). -/
def State.fillCheckFailed (s : State) : State := if s.fillingGroup.isSome then s else s.resetFill

end Sys2Proof.Machine
end

