-- ==== Sys2Proof/Machine/Channel.lean ====
section
/-! DEFINITION. Channel.lean: the transfer channels (chapters 7 and 8): requests, bursts, the ends of descriptors, pauses, aborts,
faults and residual work. -/

namespace Sys2Proof.Machine

/-! ### Requests -/

/-- Every pending request of channel `n` is withdrawn (R73); it has at most one (R121). -/
def State.withdrawChan (s : State) (n : ChanNo) : State :=
  { s with arbs := s.arbs.map fun a => { a with ch := a.ch.set n none } }

/-- The bank operations of channel `n` in flight and its beat in progress become residual, and RESIDUAL is set when there
are any (R136, R161). -/
def State.markResidual (s : State) (n : ChanNo) : State :=
  let c := s.chan n
  let left := c.residual || s.chanOp n (fun _ => true) || s.beatOf n
  let t : State := { s with
    banks := s.banks.map fun k => { k with
      op := k.op.map fun o => if o.kind.channel = some n then { o with residual := true } else o }
    stream := { s.stream with
      beat := s.stream.beat.map fun x => if x.ch = n then { x with residual := true } else x } }
  t.setChan n { c with residual := left }

/-- What a halt, CH_RESET and soft reset have in common (R136, R143, R146): the pending request is withdrawn, work in flight
becomes residual, the FIFO is emptied, no descriptor is installed, the pause-reason set is empty and ABORTING clear. -/
def State.dropWork (s : State) (n : ChanNo) : State :=
  let t := (s.withdrawChan n).markResidual n
  t.setChan n { t.chan n with
    pauses := noPauses, aborting := false, work := none, remaining := 0, ended := none, fifo := [] }

/-- Channel `n` halts at a fault (R146), with the data address `w` where R147 gives one. -/
def State.haltChan (s : State) (n : ChanNo) (code : FaultCode) (w : Option WordAddr) : State :=
  let t := s.dropWork n
  let u := t.setChan n { t.chan n with state := .halted, stop := .fault, fault := code }
  (u.hand (channelFinding n code (s.chan n).desc w)).raise (.stop n)

/-- The halt for a failed target check or a NOT_READY answer of a request (R145): WRITEBACK for a write-back, else `code`, with
the burst's first word for a data burst. -/
def State.failChan (s : State) (n : ChanNo) (r : Request) (code : FaultCode) : State :=
  match r.kind with
  | .writeback _ => s.haltChan n .writeback none
  | .dataRead _ | .dataWrite _ => s.haltChan n code (some r.addr)
  | _ => s.haltChan n code none

/-- Channel `n` places a request at the bank of its first word; a bank that is not READY answers NOT_READY at once (R74). -/
def State.placeChan (s : State) (n : ChanNo) (r : Request) : State :=
  let b := bankOf r.addr
  if s.isReady b then s.setArb b { s.arb b with ch := (s.arb b).ch.set n (some r) }
  else s.failChan n r .bankState

/-- The fetch of R117. -/
def fetchRequest (n : ChanNo) (d : DescAddr) : Request := { kind := .fetch n, addr := descWord d, words := 4 }

/-- The status write-back of R128. -/
def writebackRequest (n : ChanNo) (d : DescAddr) : Request := { kind := .writeback n, addr := descWord d, words := 1 }

/-- Channel `n` enters LOADING and places its fetch, unless RESIDUAL is set: then the fetch waits (R117, R136). -/
def State.enterLoading (s : State) (n : ChanNo) : State :=
  let c := s.chan n
  let t := s.setChan n { c with state := .loading }
  if c.residual then t else t.placeChan n (fetchRequest n c.desc)

/-! ### The next data request (R121 to R126) -/

/-- A read operation of channel `n` is in flight. -/
def State.chanReading (s : State) (n : ChanNo) : Bool :=
  s.chanOp n fun o => o.kind == .dataRead n || o.kind == .fetch n

/-- A write operation of channel `n` is in flight. -/
def State.chanWriting (s : State) (n : ChanNo) : Bool :=
  s.chanOp n fun o => o.kind == .dataWrite n || o.kind == .writeback n

/-- The free slots of a staging FIFO (R122). No read is outstanding where this is asked, so none is reserved. -/
def freeSlots (c : Channel) : Nat := Config.fifoDepth - c.fifo.length

/-- A write burst at the destination cursor for at most `most` words (R121). -/
def writeBurst (n : ChanNo) (w : Work) (most : Nat) : Request :=
  { kind := .dataWrite n, addr := w.dst, words := min Config.burstMax (min most (wordsLeftInRow w.dst)) }

/-- A read burst at the source cursor for at most `most` words (R121). -/
def readBurst (n : ChanNo) (w : Work) (most : Nat) : Request :=
  { kind := .dataRead n, addr := w.src, words := min Config.burstMax (min most (wordsLeftInRow w.src)) }

/-- The request that channel `n`, with none pending, asks for next (R123, R124, R125, R126). -/
def State.nextRequest (s : State) (n : ChanNo) (w : Work) : Option Request :=
  let c := s.chan n
  let held := c.fifo.length
  match w.op with
  | .copy =>
    if s.chanWriting n = false ∧ 1 ≤ held then some (writeBurst n w held)
    else if s.chanReading n = false ∧ 1 ≤ min w.unread (freeSlots c) then
      some (readBurst n w (min w.unread (freeSlots c)))
    else none
  | .pattern =>
    if s.chanWriting n = false ∧ 1 ≤ c.remaining then some (writeBurst n w c.remaining) else none
  | .streamIn =>
    if s.chanWriting n = false ∧ 1 ≤ held ∧
        (Config.burstMax ≤ held ∨ held = c.remaining ∨ c.fifo.any (fun x => x.last) = true) then
      some (writeBurst n w held)
    else none
  | .streamOut =>
    let u := c.remaining - held
    if s.chanReading n = false ∧ 1 ≤ u ∧ min Config.burstMax u ≤ freeSlots c then some (readBurst n w u) else none

/-- The channel is ACTIVE with a descriptor installed that has not ended, is not pausing and not aborting: it moves data. -/
def runs (c : Channel) : Bool :=
  c.state == .active && !c.pauses.any && !c.aborting && c.work.isSome && c.ended.isNone

/-- Channel `n` considers its next request (R121). -/
def State.consider (s : State) (n : ChanNo) : State :=
  let c := s.chan n
  match c.work with
  | none => s
  | some w =>
    if runs c && (s.chanRequest n).isNone then
      match s.nextRequest n w with
      | some r => s.placeChan n r
      | none => s
    else s

/-! ### The end of a descriptor (R127 to R129, R141) -/

/-- Channel `n` goes to IDLE with STOP `why`, its set emptied and ABORTING cleared, and raises CHn_STOP (R133). -/
def State.stopChan (s : State) (n : ChanNo) (why : StopReason) : State :=
  (s.setChan n { s.chan n with
    state := .idle, pauses := noPauses, stop := why, fault := .none, aborting := false, work := none, remaining := 0,
    ended := none, fifo := [] }).raise (.stop n)

/-- The transferred count: COUNT less REMAINING (R127). -/
def transferred (w : Work) (c : Channel) : Nat := w.count - c.remaining

/-- The report on an ended descriptor is over (R129): it is counted, NOTE is acted on, and the channel stops or follows NEXT;
with ABORTING set it stops as ABORTED instead (R141). -/
def State.finishDescriptor (s : State) (n : ChanNo) (w : Work) : State :=
  let t := s.setChan n { s.chan n with done := (s.chan n).done + 1#16 }
  let u := if w.note then t.raise (.attn n) else t
  if (s.chan n).aborting then u.stopChan n .aborted
  else if w.last then u.stopChan n .ended
  else
    (u.setChan n { u.chan n with
      work := none, remaining := 0, ended := none, fifo := [], desc := w.word3.extractLsb' 4 20 }).enterLoading n

/-- The installed descriptor `w` of channel `n` ends with `outcome` (R127): the write-back follows when WB is 1 (R128), else the
report is over at once. -/
def State.endDescriptor (s : State) (n : ChanNo) (w : Work) (outcome : DescOutcome) : State :=
  let t := s.setChan n { s.chan n with ended := some outcome }
  if w.wb then t.placeChan n (writebackRequest n (s.chan n).desc) else t.finishDescriptor n w

/-- The outcome of a descriptor that has ended of itself (R127). -/
def endOutcome (c : Channel) : DescOutcome := if c.remaining = 0 then .complete else .short

/-! ### Pauses (R134, R135) -/

/-- A data operation of channel `n` is outstanding, pending or in flight. -/
def State.dataOutstanding (s : State) (n : ChanNo) : Bool :=
  (s.chanRequest n).any (fun r => r.kind.isData) || s.chanOp n (fun o => o.kind.isData)

/-- The settle condition shared by a pause (R134) and an abort (R141): a descriptor is installed that has not ended, no data
operation is outstanding and no beat is in progress. -/
def State.settledWork (s : State) (n : ChanNo) : Bool :=
  (s.chan n).work.isSome && (s.chan n).ended.isNone && !s.dataOutstanding n && !s.beatOf n

/-- The pause of an ACTIVE channel takes effect now (R134). -/
def State.pauseDue (s : State) (n : ChanNo) : Bool :=
  (s.chan n).state == .active && (s.chan n).pauses.any && !(s.chan n).aborting && s.settledWork n

/-- Channel `n` goes to PAUSED (R134). -/
def State.pauseChan (s : State) (n : ChanNo) : State := s.setChan n { s.chan n with state := .paused }

/-- A pending data request of channel `n` is withdrawn; a pending write-back or fetch stays (R134, R141). -/
def State.withdrawData (s : State) (n : ChanNo) : State :=
  if (s.chanRequest n).any (fun r => r.kind.isData) then s.withdrawChan n else s

/-- Two pause-reason sets together. -/
def Pauses.union (p q : Pauses) : Pauses :=
  { host := p.host || q.host, retention := p.retention || q.retention, unowned := p.unowned || q.unowned }

/-- A pause-reason set without the reasons of another. -/
def Pauses.without (p q : Pauses) : Pauses :=
  { host := p.host && !q.host, retention := p.retention && !q.retention, unowned := p.unowned && !q.unowned }

/-- The reasons `p` are added to the set of channel `n` (R134). The first reason makes an ACTIVE channel withdraw its data
request, and pauses it at once when nothing is outstanding. An aborting channel only takes the reason (R142). -/
def State.addPause (s : State) (n : ChanNo) (p : Pauses) : State :=
  let c := s.chan n
  let t := s.setChan n { c with pauses := c.pauses.union p }
  if c.pauses.any = false ∧ c.state = .active ∧ c.aborting = false then
    let u := t.withdrawData n
    if u.pauseDue n then u.pauseChan n else u
  else t

/-- The reasons `p` are removed from the set of channel `n`, and a removal that leaves the set empty lets the channel go on
(R135). An aborting channel only loses the reasons (log entry 16). -/
def State.removePause (s : State) (n : ChanNo) (p : Pauses) : State :=
  let c := s.chan n
  let rest := c.pauses.without p
  let t := s.setChan n { c with pauses := rest }
  if c.pauses.any = true ∧ rest.any = false ∧ c.aborting = false then
    match c.state with
    | .paused =>
      if c.work.isSome then (t.setChan n { t.chan n with state := .active }).consider n else t.enterLoading n
    | .active => t.consider n
    | .idle | .loading | .halted => t
  else t

/-! ### Aborts (R140, R141) -/

/-- The report of an abort (R141 step 2): the FIFO is emptied; with WB 1 a write-back with ABORTED is requested, else the channel
stops at once (step 3). -/
def State.reportAbort (s : State) (n : ChanNo) : State :=
  match (s.chan n).work with
  | none => s
  | some w =>
    let t := s.setChan n { s.chan n with fifo := [], ended := some .aborted }
    if w.wb then t.placeChan n (writebackRequest n (s.chan n).desc) else t.stopChan n .aborted

/-- The report of channel `n` falls due (R141). -/
def State.reportDue (s : State) (n : ChanNo) : Bool := (s.chan n).aborting && s.settledWork n

/-- A taken CH_ABORT (R140, R141). -/
def State.abortChan (s : State) (n : ChanNo) : State :=
  let c := s.chan n
  let t := s.setChan n { c with aborting := true }
  match c.work with
  | some _ =>
    let u := t.withdrawData n
    if u.reportDue n then u.reportAbort n else u
  | none =>
    if c.state = .loading ∧ s.chanOp n (fun o => o.kind == .fetch n && !o.residual) = true then t
    else (t.withdrawChan n).stopChan n .aborted

/-- CH_RESET (R143), which soft reset does to every channel (R150). -/
def State.resetChan (s : State) (n : ChanNo) : State :=
  let t := s.dropWork n
  t.setChan n { t.chan n with state := .idle, stop := .none, fault := .none, done := 0#16 }

/-! ### Residual work (R136) -/

/-- A residual operation in flight, or a residual beat, of channel `n`. -/
def State.residualLeft (s : State) (n : ChanNo) : Bool :=
  s.chanOp n (fun o => o.residual) || s.stream.beat.any (fun x => x.ch == n && x.residual)

/-- RESIDUAL of channel `n` clears now. -/
def State.residualDue (s : State) (n : ChanNo) : Bool := (s.chan n).residual && !s.residualLeft n

/-- RESIDUAL clears, and a fetch that was waiting is placed (R136). -/
def State.clearResidual (s : State) (n : ChanNo) : State :=
  let c := s.chan n
  let t := s.setChan n { c with residual := false }
  if c.state = .loading ∧ (s.chanRequest n).isNone = true ∧ s.chanOp n (fun o => o.kind == .fetch n) = false then
    t.placeChan n (fetchRequest n c.desc)
  else t

/-! ### Completions of the channel's operations -/

/-- A fetch of channel `n` has come back with the words of a descriptor, none of them uncorrectable (R118 to R120). -/
def State.takeDescriptor (s : State) (n : ChanNo) (w0 w1 w2 w3 : Word) : State :=
  let c := s.chan n
  if descOwn w0 then
    match validateDescriptor c.fenceBase c.fenceLimit w0 w1 w2 w3 with
    | .inl code => s.haltChan n code none
    | .inr o =>
      let c' := { c with
        work := some (installedWork o w0 w1 w2 w3), remaining := descCount w0, ended := none, fifo := [] }
      if c.pauses.any then s.setChan n { c' with state := .paused }
      else (s.setChan n { c' with state := .active }).consider n
  else
    (s.setChan n { c with state := .paused, pauses := c.pauses.union ⟨false, false, true⟩ }).raise (.attn n)

/-- The fetch `o` of channel `n` completes at bank `b` (R118, R136, R140). -/
def State.completeFetch (s : State) (b : BankNo) (n : ChanNo) (o : Op) : State :=
  let ws := burstAddrs o.addr o.words
  let t := (s.checkBurst (.ch n) o.writesBack ws).finishColumn b
  if o.residual then t
  else if (s.chan n).aborting then t.stopChan n .aborted
  else
    match s.burstData ws with
    | some [w0, w1, w2, w3] => t.takeDescriptor n w0 w1 w2 w3
    | some _ => t
    | none => t.haltChan n .descUncorrectable none

/-- The data read `o` of channel `n` completes at bank `b` (R122, R136, R141, R148). -/
def State.completeRead (s : State) (b : BankNo) (n : ChanNo) (o : Op) : State :=
  let ws := burstAddrs o.addr o.words
  let t := (s.checkBurst (.ch n) o.writesBack ws).finishColumn b
  if o.residual || (s.chan n).aborting then t
  else
    match s.burstData ws with
    | none => t.haltChan n .readUncorrectable (s.firstUncorrectable ws)
    | some ds =>
      let c := t.chan n
      (t.setChan n { c with fifo := c.fifo ++ ds.map fun d => { data := d, last := false } }).consider n

/-- The data write `o` of channel `n` completes at bank `b` (R123, R124, R125, R136, R141): REMAINING falls by its length, its words
leave the FIFO (PATTERN uses none), and the descriptor ends, unless aborting, when REMAINING is 0 or a last mark was carried. -/
def State.completeWrite (s : State) (b : BankNo) (n : ChanNo) (o : Op) : State :=
  let t := (s.setWords o.addr o.payload).finishColumn b
  if o.residual then t
  else
    let c := t.chan n
    match c.work with
    | none => t
    | some w =>
      let carried := if w.op = .pattern then [] else c.fifo.take o.words
      let c' := { c with remaining := c.remaining - o.words, fifo := c.fifo.drop carried.length }
      let u := t.setChan n c'
      if c.aborting then u
      else if c'.remaining = 0 ∨ carried.any (fun x => x.last) = true then u.endDescriptor n w (endOutcome c')
      else u.consider n

/-- The write-back `o` of channel `n` completes at bank `b` (R129, R136, R141). -/
def State.completeWriteback (s : State) (b : BankNo) (n : ChanNo) (o : Op) : State :=
  let t := (s.setWords o.addr o.payload).finishColumn b
  if o.residual then t
  else
    match (t.chan n).work, (t.chan n).ended with
    | some w, some outcome =>
      if outcome = .aborted then t.stopChan n .aborted else t.finishDescriptor n w
    | _, _ => t

end Sys2Proof.Machine
end

