-- ==== Sys2Proof/Machine/HostPort.lean ====
section
/-! DEFINITION. HostPort.lean: the host port (chapter 6): its write queue and drain, the memory-window cycles, and the check
override it takes. -/

namespace Sys2Proof.Machine

/-! ### The end of a cycle -/

/-- The cycle in progress ends (R97). -/
def State.endCycle (s : State) (e : BusEnd) : State :=
  { s with host := { s.host with cycle := .idle, busEnd := some e } }

/-- The host port goes into a cycle state that holds the bus (R97). -/
def State.holdCycle (s : State) (c : Cycle) : State := { s with host := { s.host with cycle := c, busEnd := none } }

/-! ### The drain (R104, R105) -/

/-- A full-word entry: all four byte enables set (R100, R104). -/
def HostEntry.full (e : HostEntry) : Bool := e.lanes == 15#4

/-- The request of a queue head: a WRITE, or a MERGE for a partial entry (R104). -/
def headRequest (e : HostEntry) : Request :=
  { kind := if e.full then .hostWrite else .hostMerge, addr := e.addr, words := 1 }

/-- The request of a read that goes to the array (R101). -/
def readRequest (w : WordAddr) : Request := { kind := .hostRead, addr := w, words := 1 }

/-- A kind of operation that drains the queue head. -/
def OpKind.isDrain (k : OpKind) : Bool := k == .hostWrite || k == .hostMerge

/-- The head's operation is in flight, or its request is pending. -/
def State.headPlaced (s : State) : Bool :=
  s.anyOp (fun o => o.kind.isDrain) ||
    Four.indices.any fun b => (s.arb b).host.any fun r => r.kind.isDrain

/-- The head leaves the queue with a WRITE_FAILED record (R105). -/
def State.failHead (s : State) (code : FaultCode) : State :=
  match s.host.queue with
  | [] => s
  | e :: rest => ({ s with host := { s.host with queue := rest } } : State).hand (writeFailedFinding e.addr code)

/-- The head leaves the queue, drained (R104). -/
def State.dropHead (s : State) : State := { s with host := { s.host with queue := s.host.queue.tail } }

/-- The head's request is placed, unless it is placed already or a host read holds the place at its bank (R101, R104). A bank that is
not READY answers NOT_READY: the entry fails and the next becomes the head (R74, R105). -/
def State.placeHeads (s : State) : Nat → State
  | 0 => s
  | fuel + 1 =>
    match s.host.queue with
    | [] => s
    | e :: _ =>
      if s.headPlaced then s
      else
        let b := bankOf e.addr
        if !s.isReady b then State.placeHeads (s.failHead .bankState) fuel
        else if (s.arb b).host.isSome then s
        else s.setArb b { s.arb b with host := some (headRequest e) }

/-- The queue's head is placed; each NOT_READY answer takes one entry off, so one more try than entries suffices. -/
def State.placeHead (s : State) : State := s.placeHeads (s.host.queue.length + 1)

/-! ### Memory-window cycles (R99 to R102) -/

/-- The checks of R99 on the bank of `w` and on the retention state. -/
def State.windowOpen (s : State) (w : WordAddr) : Bool :=
  s.fitted.get (bankOf w) && s.isReady (bankOf w) && s.inService

/-- A read goes to the array (R101): it takes the place of the head's request at its bank, if one is pending there. A bank that is no
longer READY answers NOT_READY, and the cycle ends with HERR. -/
def State.readToArray (s : State) (w : WordAddr) : State :=
  let b := bankOf w
  if s.isReady b then (s.holdCycle (.readArray w)).setArb b { s.arb b with host := some (readRequest w) }
  else s.endCycle .error

/-- The newest queue entry for word `w` (R100). -/
def State.newestMatch (s : State) (w : WordAddr) : Option HostEntry :=
  (s.host.queue.filter fun e => e.addr == w).getLast?

/-- A read that has passed R99 meets the write queue (R100). -/
def State.startRead (s : State) (w : WordAddr) : State :=
  match s.newestMatch w with
  | none => s.readToArray w
  | some e => if e.full then s.endCycle (.ready (some e.data)) else s.holdCycle (.readDrain w)

/-- The checks and the acceptance of a write, at the start of its cycle or when room appears (R102), with the check override
when it takes it (R89). -/
def State.acceptWrite (s : State) (w : WordAddr) (lanes : BitVec 4) (data : Word) : State :=
  if s.windowOpen w then
    let takes := s.override.armed && lanes == 15#4
    let e : HostEntry :=
      { addr := w, lanes := lanes, data := data, mark := if takes then some s.override.check else none }
    let t : State := { s with
      override := { s.override with armed := s.override.armed && !takes }
      host := { s.host with queue := s.host.queue ++ [e] } }
    (t.endCycle (.ready none)).placeHead
  else s.endCycle .error

/-- A memory-window write cycle begins (R102). -/
def State.startWrite (s : State) (w : WordAddr) (lanes : BitVec 4) (data : Word) : State :=
  if lanes = 0#4 then s.endCycle (.ready none)
  else if s.host.queue.length < Config.hostQueueDepth then s.acceptWrite w lanes data
  else s.holdCycle (.writeHeld w lanes data)

/-- A read in READ_DRAIN may go on: its matching entry has left the queue, with every older one (R100). -/
def State.drainEndDue (s : State) : Bool :=
  match s.host.cycle with
  | .readDrain w => !s.host.queue.any fun e => e.addr == w
  | _ => false

/-- A read that may leave READ_DRAIN is about to be placed at bank `b`, ahead of the queue's head (R63, R101). -/
def State.readWaitsAt (s : State) (b : BankNo) : Bool :=
  match s.host.cycle with
  | .readDrain w => bankOf w == b && s.drainEndDue
  | _ => false

/-- A read in READ_DRAIN goes to the array (R100). -/
def State.drainEnd (s : State) : State :=
  match s.host.cycle with
  | .readDrain w => s.readToArray w
  | _ => s

/-- Room has appeared for a held write (R102). -/
def State.heldWriteDue (s : State) : Bool :=
  match s.host.cycle with
  | .writeHeld _ _ _ => decide (s.host.queue.length < Config.hostQueueDepth)
  | _ => false

/-- A held write is checked and accepted, or ended with HERR (R102). -/
def State.heldWrite (s : State) : State :=
  match s.host.cycle with
  | .writeHeld w lanes data => s.acceptWrite w lanes data
  | _ => s

/-! ### Completions (R101, R104) -/

/-- The host READ `o` completes at bank `b` (R101). -/
def State.completeHostRead (s : State) (b : BankNo) (o : Op) : State :=
  let ws := burstAddrs o.addr o.words
  let t := (s.checkBurst .host o.writesBack ws).finishColumn b
  match s.burstData ws with
  | some ds => t.endCycle (.ready ds.head?)
  | none => t.endCycle .error

/-- The words a host WRITE stores: the data with computed check bits, or with the carried bits of a marked entry (R80, R89). -/
def HostEntry.stored (e : HostEntry) : Stored :=
  match e.mark with
  | some c => { data := e.data, check := c }
  | none => encodeWord e.data

/-- The host WRITE `o` completes at bank `b` (R104). -/
def State.completeHostWrite (s : State) (b : BankNo) (o : Op) : State :=
  ((s.setWords o.addr o.payload).finishColumn b).dropHead.placeHead

/-- The MERGE of the queue head completes at bank `b` (R87, R104). -/
def State.completeMerge (s : State) (b : BankNo) (o : Op) : State :=
  match s.host.queue with
  | [] => s.finishColumn b
  | e :: _ => ((s.mergeWord o.addr e.lanes e.data).finishColumn b).dropHead.placeHead

end Sys2Proof.Machine
end

