-- ==== Sys2Proof/Machine/Requests.lean ====
section
/-! DEFINITION. Requests.lean: the requests pending at an arbiter (R62), and those that reach a free bank together (R65). -/

namespace Sys2Proof.Machine

/-- The requesters of a bank (R62). -/
inductive Requester where
  | refresh | host | ch (n : ChanNo) | fill | scrub
  deriving DecidableEq, Repr

/-- The request of a requester other than REFRESH pending at `b` (R62). -/
def State.pendingAt (s : State) (b : BankNo) (r : Requester) : Option Request :=
  match r with
  | .refresh => none
  | .host => (s.arb b).host
  | .ch n => (s.arb b).ch.get n
  | .fill => (s.arb b).fill
  | .scrub => (s.arb b).scrub

/-- The requesters other than REFRESH. -/
def otherRequesters : List Requester := [.host, .ch 0, .ch 1, .ch 2, .ch 3, .fill, .scrub]

/-- The REFRESH request of `b` is one that is granted when it stands alone (R66, R70). -/
def State.refreshAlone (s : State) (b : BankNo) : Bool :=
  match s.refreshRequest b with
  | .none => false
  | .opportunistic => (s.bank b).openRow.isNone
  | .background | .normal | .urgent => true

/-- The requesters whose request at `b` would be granted if it stood alone. -/
def State.candidates (s : State) (b : BankNo) : List Requester :=
  otherRequesters.filter (fun r => (s.pendingAt b r).isSome) ++ if s.refreshAlone b then [.refresh] else []

/-- Between `s` and `t`, two or more requests have reached bank `b` together: it was free then with nothing to grant, and it is free now
with several requests, any of which may be taken first (R65). -/
def State.meetsAt (s t : State) (b : BankNo) : Bool :=
  s.isFree b && t.isFree b && (s.candidates b).isEmpty && decide (2 ≤ (t.candidates b).length)

/-- `t`, the requests that have reached a free bank together since `s` being marked so (R65). -/
def State.meet (s t : State) : State :=
  Four.indices.foldl (fun u b => if s.meetsAt u b then u.setArb b { u.arb b with met := true } else u) t

end Sys2Proof.Machine
end

