-- ==== Sys2Proof/Machine/Scrubber.lean ====
section
/-! DEFINITION. Scrubber.lean: the scrubber's walk (chapter 5, R90 to R96). -/

namespace Sys2Proof.Machine

/-- A row of group `g` qualifies: its group is KEEP and its bank READY (R92). The eight rows of a group qualify together. -/
def State.scrubTarget (s : State) (g : Nat) : Bool :=
  (s.group g).state == .keep && s.isReady (bankOfGroup g)

/-- The group of the scrub cursor. -/
def State.scrubGroup (s : State) : Nat := groupOfRow s.scrub.bank s.scrub.row

/-- The cursor moves to segment 0 of the first row of group `g` (R92). -/
def State.moveScrub (s : State) (g : Nat) : State :=
  { s with scrub := { s.scrub with bank := bankOfGroup g, row := BitVec.ofNat 11 (g % 256 * 8), segment := 0#5 } }

/-- The pass count rises by 1, from 65535 to 0 (R92, R94). -/
def State.countPass (s : State) : State := { s with scrub := { s.scrub with pass := s.scrub.pass + 1#16 } }

/-- The search itself (R92): the cursor's row if it qualifies; else the first row of the first qualifying group after the cursor's,
or, across the wrap, before it, which counts a pass. None when no row of the array qualifies. -/
def State.findScrub (s : State) : Option State :=
  let g := s.scrubGroup
  if s.scrubTarget g then some s
  else
    match (List.range' (g + 1) (1023 - g)).find? (fun k => s.scrubTarget k) with
    | some k => some (s.moveScrub k)
    | none =>
      match (List.range g).find? (fun k => s.scrubTarget k) with
      | some k => some (s.moveScrub k).countPass
      | none => none

/-- The SCRUB request for the cursor's segment is placed, and the scrubber waits (R92). The bank is READY: the search found it so. -/
def State.placeScrub (s : State) : State :=
  let c := s.scrub
  let t := s.setArb c.bank { s.arb c.bank with
    scrub := some { kind := .scrubSegment, addr := scrubSegmentBase c.bank c.row c.segment,
                    words := Config.scrubSegmentWords } }
  { t with scrub := { t.scrub with state := .wait } }

/-- A search, made when the scrubber is IDLE with a credit (R92). -/
def State.searchScrub (s : State) : State :=
  if s.scrub.state = .idle ∧ 1 ≤ s.scrub.credits then
    match s.findScrub with
    | some t => t.placeScrub
    | none => s
  else s

/-- The scrubber's state is set. -/
def State.setScrub (s : State) (x : ScrubState) : State := { s with scrub := { s.scrub with state := x } }

/-- The pending SCRUB request is withdrawn (R73). -/
def State.withdrawScrub (s : State) : State := { s with arbs := s.arbs.map fun a => { a with scrub := none } }

/-- The cursor moves to segment 0 of the next row, counting a pass at the wrap (R93). -/
def State.nextScrubRow (s : State) : State :=
  let c := s.scrub
  if c.row = 2047#11 then
    let t : State := { s with scrub := { c with bank := c.bank + 1, row := 0#11, segment := 0#5 } }
    if c.bank = 3 then t.countPass else t
  else { s with scrub := { c with row := c.row + 1#11, segment := 0#5 } }

/-- The cursor moves to its next position, counting a pass at the wrap (R90, R94). -/
def State.nextScrubSegment (s : State) : State :=
  if s.scrub.segment = 31#5 then s.nextScrubRow
  else { s with scrub := { s.scrub with segment := s.scrub.segment + 1#5 } }

/-- The scrubber passes on (R93): next row, IDLE, and a search. -/
def State.passOnScrub (s : State) : State := (s.nextScrubRow.setScrub .idle).searchScrub

/-- A tick at the scrubber (R91): credits, capped at 16, then a search. -/
def State.tickScrub (s : State) : State :=
  ({ s with scrub := { s.scrub with
      credits := min Config.creditCap (s.scrub.credits + s.config.scrubRate) } } : State).searchScrub

/-- The scrub segment `o` completes at bank `b` (R94, R96). -/
def State.completeScrub (s : State) (b : BankNo) (o : Op) : State :=
  let t := (s.checkBurst .scrub true (burstAddrs o.addr o.words)).finishColumn b
  if o.residual then t
  else
    let u := t.nextScrubSegment
    if u.scrub.state = .held then u else (u.setScrub .idle).searchScrub

/-- The hold is applied (R95). -/
def State.holdScrub (s : State) : State := s.withdrawScrub.setScrub .held

/-- A scrub segment whose completion the scrubber still takes is in flight. -/
def State.scrubInFlight (s : State) : Bool := s.anyOp fun o => o.kind == .scrubSegment && !o.residual

/-- The hold is released (R95). With the segment of before the hold still in flight the scrubber is ACTIVE again, since R90 allows
no request beside it (log entry 15). -/
def State.releaseScrub (s : State) : State :=
  if s.scrub.state = .held then
    if s.scrubInFlight then s.setScrub .active else (s.setScrub .idle).searchScrub
  else s

/-- Soft reset at the scrubber (R96): a segment in flight is no longer the scrubber's. -/
def State.resetScrub (s : State) : State :=
  let t := s.withdrawScrub
  { t with
    banks := t.banks.map fun k => { k with
      op := k.op.map fun o => if o.kind = .scrubSegment then { o with residual := true } else o }
    scrub := { t.scrub with bank := 0, row := 0#11, segment := 0#5, credits := 0, state := .idle } }

end Sys2Proof.Machine
end

