-- ==== Sys2Proof/Machine/Leave.lean ====
section
/-! DEFINITION. Leave.lean: a bank leaves READY (R75): the switch-off (R8, R58) and the starts of the ENTRY and the POWER-DOWN (R19, R59),
and the NOT_READY answers to the requests still pending there (R74). -/

namespace Sys2Proof.Machine

/-- The parties whose requests can be answered NOT_READY with a record (R74). -/
inductive Answered where
  | host | ch (n : ChanNo)
  deriving DecidableEq, Repr

/-- Those of them with a request pending at `b`. -/
def State.answeredAt (s : State) (b : BankNo) : List Answered :=
  (if (s.arb b).host.isSome then [Answered.host] else []) ++
    (Four.indices.filter fun n => ((s.arb b).ch.get n).isSome).map Answered.ch

/-- The NOT_READY answer to the HOST request pending at `b` (R74, R101, R105): a read ends with HERR, a queue head fails; the head's
request is then placed again, or the next head's. A next head whose bank is not READY either fails directly after the first, and no finding
of another block stands between the two, a DESIGN CHOICE: R176 leaves that order open (log entry 25). -/
def State.answerHost (s : State) (b : BankNo) : State :=
  match (s.arb b).host with
  | none => s
  | some r =>
    let t := s.setArb b { s.arb b with host := none }
    if r.kind = .hostRead then (t.endCycle .error).placeHead else (t.failHead .bankState).placeHead

/-- The NOT_READY answer to the request of channel `n` pending at `b` (R74, R145). -/
def State.answerChan (s : State) (b : BankNo) (n : ChanNo) : State :=
  match (s.arb b).ch.get n with
  | none => s
  | some r => s.failChan n r .bankState

/-- The NOT_READY answer to one party. -/
def State.answer (s : State) (b : BankNo) (x : Answered) : State :=
  match x with
  | .host => s.answerHost b
  | .ch n => s.answerChan b n

/-- Every request still pending at `b`, which is no longer READY, is answered (R75): the host's and the channels' in an order the
spec leaves open (R176), then the scrubber's, which passes on. The fill engine has none: its groups keep a bank from
switching off, and it is held while banks enter (R35). The next queue head and the scrubber may reach another bank together. -/
def State.answerPending (s : State) (b : BankNo) : State :=
  let t := s.forTogether (s.answeredAt b) fun x u => u.answer b x
  let u := t.setArb b { t.arb b with fill := none, scrub := none }
  s.meet (if (t.arb b).scrub.isSome then u.passOnScrub else u)

/-- Bank `b` goes to OFF (R8, R58). -/
def State.goOff (s : State) (b : BankNo) : State :=
  let t := s.closeRow b
  let u := t.setBank b { t.bank b with state := .off, settle := 0, op := none, offWaiting := false, order := none }
  (u.setBalance b 0 0#8).answerPending b

/-- The kind of operation a retention order begins. -/
def orderKind (o : RetentionOrder) : OpKind :=
  match o with
  | .selfRefreshEntry => .selfRefreshEntry
  | .powerDown => .powerDown

/-- The ordered ENTRY or POWER-DOWN begins at READY bank `b` (R18, R19, R59): the row closes, the bank goes to ENTERING, its balance and
cursor are held, and the requests pending there are answered. -/
def State.beginOrder (s : State) (b : BankNo) (o : RetentionOrder) : State :=
  let t := s.startClosed b (orderKind o) 0#22
  (t.setBank b { t.bank b with state := .entering, order := none }).answerPending b

/-- One more bank has reported to the retention controller (R170, R172). -/
def State.reportSettled (s : State) : State :=
  { s with retention := { s.retention with unsettled := s.retention.unsettled - 1 } }

end Sys2Proof.Machine
end

