-- ==== Sys2Proof/Machine/Arbiter.lean ====
section
/-! DEFINITION. Arbiter.lean: the bank arbiter (chapter 4): the grant order, the NORMAL class, the grant with its check, and
the grant that lapses. -/

namespace Sys2Proof.Machine

/-- How a winner was picked: by its rank alone, or in the NORMAL class by a hit or a rotation decision (R66, R67). -/
inductive Picked where
  | byRank | byHit | byRotation
  deriving DecidableEq, Repr

/-- The requester at a NORMAL position: 0 to 3 CH0 to CH3, 4 FILL, 5 REFRESH (R68, 12.3). -/
def requesterAt (p : Fin 6) : Requester :=
  match p with
  | 0 => .ch 0
  | 1 => .ch 1
  | 2 => .ch 2
  | 3 => .ch 3
  | 4 => .fill
  | 5 => .refresh

/-- The NORMAL request at position `p` is pending: a channel's, the fill engine's, or REFRESH at NORMAL (R66). -/
def State.normalPending (s : State) (b : BankNo) (p : Fin 6) : Bool :=
  match requesterAt p with
  | .refresh => s.refreshRequest b == .normal
  | r => (s.pendingAt b r).isSome

/-- A request is a page hit when its row is the open row (R67). -/
def State.isHit (s : State) (b : BankNo) (r : Request) : Bool := (s.bank b).openRow == some (rowOf r.addr)

/-- The NORMAL request at position `p` is pending and a page hit; REFRESH never is (R67). -/
def State.normalHit (s : State) (b : BankNo) (p : Fin 6) : Bool :=
  (s.pendingAt b (requesterAt p)).any fun r => s.isHit b r

/-- The six NORMAL positions. -/
def normalPositions : List (Fin 6) := [0, 1, 2, 3, 4, 5]

/-- CAPPED: the streak is 16 and a NORMAL request that is not a page hit is pending, so the preference is lapsed (R67, R77). -/
def State.capped (s : State) (b : BankNo) : Bool :=
  (s.arb b).streak == Config.streakCap && normalPositions.any fun p => s.normalPending b p && !s.normalHit b p

/-- The search order after a position, which is met last (R68). -/
def searchAfter (p : Fin 6) : List (Fin 6) := [p + 1, p + 2, p + 3, p + 4, p + 5, p]

/-- The winner of the NORMAL class (R67): by a hit decision when the preference is in force and there is a page hit, else by rotation. -/
def State.normalWinner (s : State) (b : BankNo) : Option (Fin 6 × Picked) :=
  if s.capped b = false ∧ normalPositions.any (fun p => s.normalHit b p) = true then
    ((searchAfter (s.arb b).hitPos).find? fun p => s.normalHit b p).map fun p => (p, .byHit)
  else
    ((searchAfter (s.arb b).rotPos).find? fun p => s.normalPending b p).map fun p => (p, .byRotation)

/-- A request of a requester other than REFRESH is pending at `b` (R70). -/
def State.otherPending (s : State) (b : BankNo) : Bool :=
  (s.arb b).host.isSome || Four.indices.any (fun n => ((s.arb b).ch.get n).isSome) || (s.arb b).fill.isSome
    || (s.arb b).scrub.isSome

/-- The grant order (R66, R70): the winner among the pending requests of `b`, and how it was picked. -/
def State.orderWinner (s : State) (b : BankNo) : Option (Requester × Picked) :=
  if s.refreshRequest b = .urgent then some (.refresh, .byRank)
  else if (s.arb b).host.isSome then some (.host, .byRank)
  else
    match s.normalWinner b with
    | some (p, how) => some (requesterAt p, how)
    | none =>
      if (s.arb b).scrub.isSome then some (.scrub, .byRank)
      else if s.refreshRequest b = .background ∧ s.otherPending b = false then some (.refresh, .byRank)
      else if s.refreshRequest b = .opportunistic ∧ s.otherPending b = false ∧ (s.bank b).openRow = none then
        some (.refresh, .byRank)
      else none

/-- How the request of `r` is picked when it stands alone at `b` (R66, R67). -/
def State.pickedAlone (s : State) (b : BankNo) (r : Requester) : Picked :=
  match r with
  | .refresh => if s.refreshRequest b = .normal then .byRotation else .byRank
  | .host | .scrub => .byRank
  | .ch _ | .fill => if (s.pendingAt b r).any (fun q => s.isHit b q) then .byHit else .byRotation

/-- The winner at `b`, and how it was picked. Requests that reached the free bank together have no order: the one taken first is granted
alone (R65), and Config.together says which that is (log entries 9 and 13). All others are decided by the grant order. -/
def State.winner (s : State) (b : BankNo) : Option (Requester × Picked) :=
  let c := s.candidates b
  if (s.arb b).met && decide (2 ≤ c.length) then
    (c.drop (Config.together s.ties % c.length)).head?.map fun r => (r, s.pickedAlone b r)
  else s.orderWinner b

/-- A decision at `b` is made: no requests are together there any more. -/
def State.parted (s : State) (b : BankNo) : State :=
  if (s.arb b).met then { s.setArb b { s.arb b with met := false } with ties := s.ties + 1 } else s

/-- A grant decision is to be made at `b` (R64): the bank is READY and free, no switch-off and no retention order waits, no host read is about
to be placed there ahead of the queue's head (R63), and a pending request may be granted. -/
def State.grantDue (s : State) (b : BankNo) : Bool :=
  s.isFree b && !(s.bank b).offWaiting && (s.bank b).order.isNone && !s.readWaitsAt b && (s.winner b).isSome

/-- The winning request leaves the pending requests (R71). -/
def State.takeRequest (s : State) (b : BankNo) (r : Requester) : State :=
  let a := s.arb b
  match r with
  | .refresh => s
  | .host => s.setArb b { a with host := none }
  | .ch n => s.setArb b { a with ch := a.ch.set n none }
  | .fill => s.setArb b { a with fill := none }
  | .scrub => s.setArb b { a with scrub := none }

/-- The position a NORMAL winner stands at (R68); the others move none. -/
def positionOf (r : Requester) : Fin 6 :=
  match r with
  | .ch n => ⟨n.val, Nat.lt_of_lt_of_le n.isLt (by decide)⟩
  | .fill => 4
  | .refresh | .host | .scrub => 5

/-- The streak count and the positions when a granted operation begins (R68, R69). -/
def State.countGrant (s : State) (b : BankNo) (r : Requester) (how : Picked) (hit : Bool) : State :=
  let a := s.arb b
  let a' := { a with streak := if hit then min Config.streakCap (a.streak + 1) else 0 }
  match how with
  | .byRank => s.setArb b a'
  | .byHit => s.setArb b { a' with hitPos := positionOf r }
  | .byRotation => s.setArb b { a' with rotPos := positionOf r }

/-- The check of the target at the grant (R24, R32, R101, R104, R145): for the fill engine that the group is FILLING, for all others that it
is KEEP, and that the bank is READY. -/
def State.grantCheck (s : State) (b : BankNo) (r : Requester) (q : Request) : Bool :=
  match r with
  | .fill => (s.group (groupOf q.addr)).state == .filling && s.isReady b
  | _ => (s.group (groupOf q.addr)).state == .keep && s.isReady b

/-- The words a granted request stores: the queue head's (R80, R89), the pattern or the words at the head of the FIFO (R122, R124),
the write-back word (R128), or the zeros of a fill segment (R31). -/
def State.grantPayload (s : State) (q : Request) : List Stored :=
  match q.kind with
  | .hostWrite => (s.host.queue.head?.map HostEntry.stored).toList
  | .dataWrite n =>
    match (s.chan n).work with
    | none => []
    | some w =>
      if w.op = .pattern then List.replicate q.words (encodeWord w.word1)
      else ((s.chan n).fifo.take q.words).map fun x => encodeWord x.data
  | .writeback n =>
    match (s.chan n).work, (s.chan n).ended with
    | some w, some outcome => [encodeWord (writebackWord w outcome (transferred w (s.chan n)))]
    | _, _ => []
  | .fillSegment => List.replicate q.words (encodeWord 0#32)
  | _ => []

/-- What the requester does when its operation has begun: the host port places its head again beside a granted read (R101); a
channel's cursor advances and it considers its next request (R121); a fill segment in flight has seen no restart yet (R33); the
scrubber spends a credit (R93). -/
def State.granted (s : State) (r : Requester) (q : Request) : State :=
  match r with
  | .host => if q.kind = .hostRead then s.placeHead else s
  | .ch n =>
    match q.kind, (s.chan n).work with
    | .dataRead _, some w =>
      (s.setChan n { s.chan n with
        work := some { w with src := w.src + BitVec.ofNat 22 q.words, unread := w.unread - q.words } }).consider n
    | .dataWrite _, some w =>
      (s.setChan n { s.chan n with work := some { w with dst := w.dst + BitVec.ofNat 22 q.words } }).consider n
    | _, _ => s.consider n
  | .fill => { s with fill := { s.fill with restart := false } }
  | .scrub => { s with scrub := { s.scrub with credits := s.scrub.credits - 1, state := .active } }
  | .refresh => s

/-- What the requester does when its grant lapses (R72). -/
def State.lapsed (s : State) (r : Requester) (q : Request) : State :=
  match r with
  | .host =>
    if q.kind = .hostRead then (s.endCycle .error).placeHead else (s.failHead .groupState).placeHead
  | .ch n => s.failChan n q .groupState
  | .fill => s.fillCheckFailed
  | .scrub => s.passOnScrub
  | .refresh => s

/-- A REFRESH begins on the group at the cursor (R17, R53). -/
def State.beginRefresh (s : State) (b : BankNo) (how : Picked) : State :=
  (s.countGrant b .refresh how false).startClosed b .refresh (groupBase (s.cursorGroup b))

/-- The operation of a granted request begins (R71). -/
def State.beginGranted (s : State) (b : BankNo) (r : Requester) (how : Picked) (q : Request) : State :=
  let t := (s.takeRequest b r).countGrant b r how (s.isHit b q)
  (t.startColumn b q.kind q.addr q.words (s.grantPayload q)).granted r q

/-- The grant decisions of one happening at `b`, at most `fuel` of them: each picks a winner; the first whose check passes begins its
operation, and each lapsed grant is followed by a new decision (R71, R72). -/
def State.grants (s : State) (b : BankNo) : Nat → State
  | 0 => s
  | fuel + 1 =>
    if s.grantDue b then
      match s.winner b with
      | none => s
      | some (.refresh, how) => (s.parted b).beginRefresh b how
      | some (r, how) =>
        match s.pendingAt b r with
        | none => s
        | some q =>
          if s.grantCheck b r q then (s.parted b).beginGranted b r how q
          else State.grants (((s.parted b).takeRequest b r).lapsed r q) b fuel
    else s

/-- The decisions of one happening: every lapse takes a request away, and only the host port (its next queue head) and the scrubber
(which then asks only for a row it may read) place another, so 16 decisions suffice. A lapse here may send the host port and the scrubber to
another bank together. -/
def State.grant (s : State) (b : BankNo) : State := s.meet (s.grants b 16)

end Sys2Proof.Machine
end

