-- ==== Sys2Proof/Machine/Stream.lean ====
section
/-! DEFINITION. Stream.lean: the peripheral stream port (chapter 9): eligibility, the beat decision, and the take. -/

namespace Sys2Proof.Machine

/-- Channel `n` is eligible for a beat (R155). -/
def State.eligible (s : State) (n : ChanNo) : Bool :=
  let c := s.chan n
  runs c && !s.beatOf n && s.stream.srq.get n &&
    match c.work with
    | none => false
    | some w =>
      match w.op with
      | .streamIn =>
        decide (c.fifo.length < Config.fifoDepth) && decide (c.fifo.length < c.remaining) && !c.fifo.any (fun x => x.last)
      | .streamOut => decide (1 ≤ c.fifo.length)
      | .copy | .pattern => false

/-- The channels in cyclic order from the one after the rotation position to the position itself (R156). -/
def State.beatOrder (s : State) : List ChanNo := [s.stream.rot + 1, s.stream.rot + 2, s.stream.rot + 3, s.stream.rot]

/-- A beat of channel `n` begins (R153, R154, R156): the rotation position names the winner, and a STREAM_OUT beat latches the
head word of its FIFO. -/
def State.beginBeat (s : State) (n : ChanNo) : State :=
  let c := s.chan n
  let isOut := c.work.any fun w => w.op == .streamOut
  let word := if isOut then some ((c.fifo.head?.map FifoWord.data).getD 0#32) else none
  { s with stream := { s.stream with
      beat := some { ch := n, out := word, residual := false }, rot := n, beatCh := n } }

/-- The beat decision (R156): a free port begins the beat of the first eligible channel in order. -/
def State.decideBeat (s : State) : State :=
  if s.stream.beat.isSome then s
  else
    match s.beatOrder.find? (fun n => s.eligible n) with
    | some n => s.beginBeat n
    | none => s

/-- The level of SRQn changes (R157). -/
def State.setSrq (s : State) (n : ChanNo) (level : Bool) : State :=
  { s with stream := { s.stream with srq := s.stream.srq.set n level } }

/-- A STREAM_IN beat of channel `n` ends with the word `sd` and the mark `slast` (R158, R160): the word joins the FIFO. -/
def State.endInBeat (s : State) (n : ChanNo) (sd : Word) (slast : Bool) : State :=
  let c := s.chan n
  (s.setChan n { c with fifo := c.fifo ++ [{ data := sd, last := slast }] }).consider n

/-- A STREAM_OUT beat of channel `n` ends (R159, R160): the head word leaves, REMAINING falls by 1, and SLAST or the last word
ends the descriptor. An aborting channel takes no notice of SLAST (R160) and does not end (R141). -/
def State.endOutBeat (s : State) (n : ChanNo) (slast : Bool) : State :=
  let c := s.chan n
  let c' := { c with fifo := c.fifo.drop 1, remaining := c.remaining - 1 }
  let t := s.setChan n c'
  match c.work with
  | none => t
  | some w =>
    if c.aborting then t
    else if slast then
      let u := (t.setChan n { c' with fifo := [] }).withdrawData n
      (u.markResidual n).endDescriptor n w (endOutcome c')
    else if c'.remaining = 0 then t.endDescriptor n w .complete
    else t.consider n

/-- The take of the beat `x` (R153): SRQn falls, the port is free, the word is exchanged, and the next beat is decided. The word
of a residual beat goes nowhere (R161). -/
def State.take (s : State) (x : Beat) (sd : Word) (slast : Bool) : State :=
  let t := s.setSrq x.ch false
  let u := { t with stream := { t.stream with beat := none } }
  if x.residual then u.decideBeat
  else
    match x.out with
    | none => (u.endInBeat x.ch sd slast).decideBeat
    | some _ => (u.endOutBeat x.ch slast).decideBeat

end Sys2Proof.Machine
end

