-- ==== Sys2Proof/Machine/Retention.lean ====
section
/-! DEFINITION. Retention.lean: the retention controller (chapter 10). -/

namespace Sys2Proof.Machine

/-- The retention state is set. -/
def State.setRetention (s : State) (x : RetentionState) : State :=
  { s with retention := { s.retention with state := x } }

/-- The reason RETENTION. -/
def retentionPause : Pauses := { host := false, retention := true, unowned := false }

/-- RETENTION is added to channel `n` when it is LOADING, ACTIVE or PAUSED (R166). -/
def State.holdChan (s : State) (n : ChanNo) : State :=
  match (s.chan n).state with
  | .loading | .active | .paused => s.addPause n retentionPause
  | .idle | .halted => s

/-- The controller goes to QUIESCING and gives its orders (R164). -/
def State.enterQuiescing (s : State) : State :=
  (Four.indices.foldl (fun t n => t.holdChan n) (s.setRetention .quiescing)).holdFill.holdScrub

/-- The channels that RETENTION alone holds, and which go on when it is removed. -/
def State.heldByRetention (s : State) : List ChanNo :=
  Four.indices.filter fun n => decide ((s.chan n).pauses = retentionPause)

/-- RETENTION is removed from the channels that hold it (R166), in an order the spec leaves open where several go on (R176); then the
fill engine and the scrubber are released (R35, R95), and the stream port may have a channel to serve (R156): among several the rotation
picks the one, a DESIGN CHOICE where R156 names no winner, as it is that each channel has considered its next request by then (log entry 25). -/
def State.releaseAll (s : State) : State :=
  let others := Four.indices.filter fun n => (s.chan n).pauses.retention && decide ((s.chan n).pauses ≠ retentionPause)
  let t := others.foldl (fun u n => u.removePause n retentionPause) s
  ((t.forTogether s.heldByRetention fun n u => u.removePause n retentionPause).releaseFill.releaseScrub).decideBeat

/-! ### Quiescing (R165, R168, R169) -/

/-- WAIT_CH: some channel is LOADING or ACTIVE (R165). -/
def State.waitCh (s : State) : Bool :=
  Four.indices.any fun n => (s.chan n).state == .loading || (s.chan n).state == .active

/-- WAIT_FILL: a fill segment is in flight (R165). -/
def State.waitFill (s : State) : Bool := s.fillInFlight

/-- WAIT_QUEUE: the host write queue is not empty (R165). -/
def State.waitQueue (s : State) : Bool := !s.host.queue.isEmpty

/-- WAIT_INIT: some bank is in INIT (R165). It is clear while a bank is ENTERING or EXITING, a DESIGN CHOICE: the condition that R165 tests makes it
clear there, and the words of its column "Met when" would make it set (log entry 26). -/
def State.waitInit (s : State) : Bool := Four.indices.any fun b => (s.bank b).state == .init

/-- The quiesce is complete (R165). What the host queue's last entries let the bus do comes first: a read leaves READ_DRAIN (R114) and a held
write is checked (R102). -/
def State.quiesceDue (s : State) : Bool :=
  s.retention.state == .quiescing && !s.waitCh && !s.waitFill && !s.waitQueue && !s.waitInit && !s.drainEndDue
    && !s.heldWriteDue

/-- The order of bank `b` at commitment (R169): none unless it is READY with no switch-off waiting. -/
def State.orderFor (s : State) (b : BankNo) : Option RetentionOrder :=
  if s.isReady b = true ∧ (s.bank b).offWaiting = false then
    some (if s.holdsData b then .selfRefreshEntry else .powerDown)
  else none

/-- Bank `b` is given the order `o` (R18): a free bank begins at once, an operating one records it. -/
def State.giveOrder (s : State) (b : BankNo) (o : Option RetentionOrder) : State :=
  match o with
  | none => s
  | some x => if (s.bank b).op.isNone then s.beginOrder b x else s.setBank b { s.bank b with order := some x }

/-- The controller commits (R169): every bank's order is decided from the table as it stands, UNSETTLED counts the READY banks, and
the orders are given; banks whose pending requests make records are taken in an order the spec leaves open (R176). That no finding of another bank
comes between two of one bank is a DESIGN CHOICE (log entry 25). -/
def State.commit (s : State) : State :=
  let orders : Four (Option RetentionOrder) := ⟨s.orderFor 0, s.orderFor 1, s.orderFor 2, s.orderFor 3⟩
  let t : State := { s with retention := { s.retention with
    state := .entering, unsettled := Four.indices.countP fun b => s.isReady b } }
  let noisy := Four.indices.filter fun b => !(s.answeredAt b).isEmpty
  let quiet := Four.indices.filter fun b => (s.answeredAt b).isEmpty
  (quiet.foldl (fun u b => u.giveOrder b (orders.get b)) t).forTogether noisy fun b u => u.giveOrder b (orders.get b)

/-- The quiesce completes: INT decides between DENIED (R168) and commitment (R169). -/
def State.completeQuiesce (s : State) : State :=
  if s.int then s.meet (((s.setRetention .denied).releaseAll).raise .retDenied) else s.commit

/-! ### Sleeping and waking (R170 to R173) -/

/-- Bank `b` is woken (R20, R172): EXIT for a RETAINED bank, RESTART for a DORMANT one. -/
def State.wakeBank (s : State) (b : BankNo) : State :=
  match (s.bank b).state with
  | .retained =>
    let t := s.startClosed b .selfRefreshExit 0#22
    t.setBank b { t.bank b with state := .exiting }
  | .dormant => (s.setBank b { s.bank b with state := .init, settle := 0, op := none }).setBalance b 0 0#8
  | .off | .init | .ready | .entering | .exiting => s

/-- The controller goes to WAKING (R172). -/
def State.enterWaking (s : State) : State :=
  let n := Four.indices.countP fun b => (s.bank b).state == .retained
  Four.indices.foldl (fun t b => t.wakeBank b)
    { s with retention := { s.retention with state := .waking, unsettled := n } }

/-- ENTERING is over (R170). -/
def State.settledDue (s : State) : Bool := s.retention.state == .entering && s.retention.unsettled == 0

/-- The controller goes to RETAINED, and on to WAKING when RET_REQ is low (R170, R171). -/
def State.settle (s : State) : State :=
  let t := s.setRetention .retained
  if s.retention.req then t else t.enterWaking

/-- WAKING is over (R173). -/
def State.wakingDue (s : State) : Bool := s.retention.state == .waking && s.retention.unsettled == 0

/-- WAKING completes (R173): NORMAL, everything released, RET_EXIT raised, and a new QUIESCING when RET_REQ is high. The new QUIESCING withdraws
what the release has just asked for before any grant, and adds RETENTION after the beat decision: DESIGN CHOICES, since R73 lets grant or
withdrawal come first and no rule orders the beat (log entry 25). -/
def State.completeWaking (s : State) : State :=
  let t := ((s.setRetention .normal).releaseAll).raise .retExit
  s.meet (if s.retention.req then t.enterQuiescing else t)

/-- RET_REQ rises (R164): NORMAL leads to QUIESCING, any other state only sees the level. -/
def State.retReqRises (s : State) : State :=
  let t : State := { s with retention := { s.retention with req := true } }
  match s.retention.state with
  | .normal => t.enterQuiescing
  | .quiescing | .denied | .entering | .retained | .waking => t

/-- RET_REQ falls (R167, R168, R171): QUIESCING and DENIED lead back to NORMAL, RETAINED to WAKING; ENTERING and WAKING only see the
level. -/
def State.retReqFalls (s : State) : State :=
  let t : State := { s with retention := { s.retention with req := false } }
  match s.retention.state with
  | .quiescing => s.meet (t.setRetention .normal).releaseAll
  | .denied => t.setRetention .normal
  | .retained => t.enterWaking
  | .normal | .entering | .waking => t

end Sys2Proof.Machine
end

