-- ==== Sys2Proof/Machine/Command.lean ====
section
/-! DEFINITION. Command.lean: the commands (R186): each one's conditions in their order, its effect, and the taking of a command with
its outcome in CMD_STATUS (R108 to R110). -/

namespace Sys2Proof.Machine

/-- What a command's owner answers (R110): the reason of a refusal, or the state after the command. -/
abbrev Verdict := Except Reason State

/-! ### Banks (chapter 1) -/

/-- The effect of a taken BANK_ON (R4, R57): INIT with a settle count of 0, balance and cursor 0. -/
def State.bankOnEffect (s : State) (b : BankNo) : State :=
  (s.setBank b { s.bank b with state := .init, settle := 0 }).setBalance b 0 0#8

/-- BANK_ON (R4). -/
def State.bankOn (s : State) : Verdict :=
  match argBank s.arg with
  | none => .error .arg
  | some b =>
    if s.fitted.get b = false then .error .arg
    else if s.inService = false then .error .retention
    else if (s.bank b).state ≠ .off then .error .state
    else .ok (s.bankOnEffect b)

/-- Condition 3 of R7 and condition 4 of R27: the bank is INIT, or READY with no switch-off waiting. -/
def State.inUse (s : State) (b : BankNo) : Bool :=
  match (s.bank b).state with
  | .init => true
  | .ready => !(s.bank b).offWaiting
  | .off | .entering | .retained | .dormant | .exiting => false

/-- The effect of a taken BANK_OFF (R7, R8, R55): the bank's LAPSED groups become DISCARD; a bank in INIT, or READY and free, goes to OFF at
once, and for an operating one the switch-off waits. -/
def State.bankOffEffect (s : State) (b : BankNo) : State :=
  let t := s.discardGroups (runGroups (b.val * 256) 256) [.lapsed]
  if s.isReady b && (s.bank b).op.isSome then (t.setBank b { t.bank b with offWaiting := true }).applySkip b
  else t.goOff b

/-- BANK_OFF (R7). -/
def State.bankOff (s : State) : Verdict :=
  match argBank s.arg with
  | none => .error .arg
  | some b =>
    if s.inService = false then .error .retention
    else if s.inUse b = false then .error .state
    else if s.maySwitchOff b = false then .error .state
    else .ok (s.bankOffEffect b)

/-! ### Row groups (chapter 2) -/

/-- The banks that contain a group of the run (R27). -/
def runBanks (first count : Nat) : List BankNo :=
  Four.indices.filter fun b => (runGroups first count).any fun g => bankOfGroup g == b

/-- The effect of a taken FILL (R28). -/
def State.fillEffect (s : State) (first count : Nat) : State :=
  let t := s.markGroups (runGroups first count) .fillPending
  { t with fill := { t.fill with queue := t.fill.queue ++ [{ first := first, count := count, next := first }] } }

/-- FILL (R27). -/
def State.fillCommand (s : State) : Verdict :=
  let first := argFirst s.arg
  let count := argCount s.arg
  if runInRange first count = false then .error .arg
  else if s.inService = false then .error .retention
  else if (runGroups first count).all (fun g => [GroupState.discard, .lapsed].contains (s.group g).state) = false then
    .error .state
  else if (runBanks first count).all (fun b => s.inUse b) = false then .error .state
  else if Config.fillQueueDepth ≤ s.fill.queue.length then .error .full
  else .ok (s.fillEffect first count)

/-- The effect of a taken RELEASE (R37, R55). -/
def State.releaseEffect (s : State) (first count : Nat) : State :=
  (s.discardGroups (runGroups first count) [.keep, .lapsed]).applySkips

/-- RELEASE (R37). -/
def State.releaseCommand (s : State) : Verdict :=
  let first := argFirst s.arg
  let count := argCount s.arg
  if runInRange first count = false then .error .arg
  else if s.inService = false then .error .retention
  else if (runGroups first count).any (fun g => [GroupState.fillPending, .filling].contains (s.group g).state) = true then
    .error .state
  else .ok (s.releaseEffect first count)

/-- QUERY (R39): its result is the group's state and weak count. -/
def State.queryCommand (s : State) : Verdict :=
  if 1023 < s.arg.toNat then .error .arg
  else
    .ok { s with cmdStatus := { s.cmdStatus with
      resultState := (s.group s.arg.toNat).state, resultWeak := (s.group s.arg.toNat).weak } }

/-! ### The error log (chapter 11) -/

/-- LOG_POP (R180). -/
def State.logPopCommand (s : State) : Verdict :=
  match s.log.records with
  | [] => .error .state
  | _ :: rest => .ok { s with log := { s.log with records := rest } }

/-! ### Channels (chapter 8) -/

/-- The effect of a taken CH_START (R137). -/
def State.startChan (s : State) (n : ChanNo) (d : DescAddr) : State :=
  (s.setChan n { s.chan n with stop := .none, fault := .none, desc := d }).enterLoading n

/-- CH_START (R137). -/
def State.chStartCommand (s : State) (n : ChanNo) : Verdict :=
  match argDesc s.arg with
  | none => .error .arg
  | some d =>
    if s.inService = false then .error .retention
    else
      match (s.chan n).state with
      | .idle | .halted => if (s.chan n).aborting then .error .state else .ok (s.startChan n d)
      | .loading | .active | .paused => .error .state

/-- The reason HOST (R134). -/
def hostPause : Pauses := { host := true, retention := false, unowned := false }

/-- The reasons CH_RESUME removes (R139). -/
def resumedPauses : Pauses := { host := true, retention := false, unowned := true }

/-- The channel is LOADING, ACTIVE or PAUSED with ABORTING clear (R138, R140). -/
def underWay (c : Channel) : Bool :=
  !c.aborting &&
    match c.state with
    | .loading | .active | .paused => true
    | .idle | .halted => false

/-- CH_PAUSE (R138). -/
def State.chPauseCommand (s : State) (n : ChanNo) : Verdict :=
  if underWay (s.chan n) then .ok (s.addPause n hostPause) else .error .state

/-- CH_RESUME (R139); a channel that is ACTIVE again may be served a beat (R156). It considers its next request before the stream port decides, a
DESIGN CHOICE: one that is answered NOT_READY halts the channel, and no beat of it begins (log entry 25). -/
def State.chResumeCommand (s : State) (n : ChanNo) : Verdict :=
  if s.inService = false then .error .retention
  else if (s.chan n).state = .paused ∧ (s.chan n).aborting = false then
    .ok (s.removePause n resumedPauses).decideBeat
  else .error .state

/-- CH_ABORT (R140). -/
def State.chAbortCommand (s : State) (n : ChanNo) : Verdict :=
  if underWay (s.chan n) then .ok (s.abortChan n) else .error .state

/-- CH_RESET (R143). -/
def State.chResetCommand (s : State) (n : ChanNo) : Verdict := .ok (s.resetChan n)

/-! ### SOFT_RESET (R112) -/

/-- The log is emptied, its counters are 0 (R181), and every sticky flag is clear (R184). -/
def State.clearReports (s : State) : State :=
  { s with
    log := { records := [], nextSeq := 0#8, overflow := 0 }
    events := { s.events with sticky := 0#17 } }

/-- The effect of a taken SOFT_RESET on every block: the group manager (R40), the scrubber (R96), the override latch (R88), the channels
(R150), the log (R181), the event flags (R184) and the refresh cursors (R55, R61). -/
def State.softResetEffect (s : State) : State :=
  let t := s.resetFill.resetScrub
  let u : State := { t with override := { t.override with armed := false } }
  (Four.indices.foldl (fun v n => v.resetChan n) u).clearReports.applySkips

/-- SOFT_RESET (R112). -/
def State.softResetCommand (s : State) : Verdict :=
  if s.inService = false then .error .retention else .ok s.softResetEffect

/-! ### The taking of a command (R108 to R110, R186) -/

/-- The command that COMMAND holds, checked and carried out with ARG as it stands. -/
def State.runCommand (s : State) : Verdict :=
  let n := commandChannel s.command
  match (commandCode s.command).toNat with
  | 0x01 => s.bankOn
  | 0x02 => s.bankOff
  | 0x03 => s.fillCommand
  | 0x04 => s.releaseCommand
  | 0x05 => s.queryCommand
  | 0x06 => s.logPopCommand
  | 0x10 => s.chStartCommand n
  | 0x11 => s.chPauseCommand n
  | 0x12 => s.chResumeCommand n
  | 0x13 => s.chAbortCommand n
  | 0x14 => s.chResetCommand n
  | 0x1F => s.softResetCommand
  | _ => .error .arg

/-- The outcome of a command is stored in CMD_STATUS and its cycle ends with HRDY; a refusal raises REFUSED (R110). -/
def State.concludeCommand (s : State) (v : Verdict) : State :=
  match v with
  | .error r =>
    (({ s with cmdStatus := { resetCmdStatus with outcome := .refused, reason := r, code := commandCode s.command } } :
      State).endCycle (.ready none)).raise .refused
  | .ok t =>
    ({ t with cmdStatus := { t.cmdStatus with
        outcome := .taken, reason := .none, code := commandCode s.command } } : State).endCycle (.ready none)

/-- A command is taken (R110). The RESULT fields are 0 unless a QUERY sets them. -/
def State.takeCommand (s : State) : State :=
  let t : State := { s with cmdStatus := resetCmdStatus }
  t.concludeCommand t.runCommand

/-- A write of `w` to COMMAND on an idle bus (R108, R109): the command is taken at once when the host write queue is empty, and waits at
the barrier otherwise. -/
def State.issue (s : State) (w : Word) : State :=
  let t : State := { s with command := w }
  if s.host.queue.isEmpty then t.takeCommand else t.holdCycle .barrier

/-- The barrier's wait is over (R109). -/
def State.barrierDue (s : State) : Bool := s.host.cycle == .barrier && s.host.queue.isEmpty

end Sys2Proof.Machine
end

