-- ==== Sys2Proof/Machine/Completions.lean ====
section
/-! DEFINITION. Completions.lean: the bank operations complete (R9): each completion acts on the operation in flight at its bank when that
is of the kind completed. -/

namespace Sys2Proof.Machine

/-- `f` on the operation in flight at `b`, when its kind has property `p`; else nothing happens. -/
def State.onOp (s : State) (b : BankNo) (p : OpKind → Bool) (f : Op → State) : State :=
  match (s.bank b).op with
  | some o => if p o.kind then f o else s
  | none => s

/-- A host READ (R101). -/
def State.hostReadCompletes (s : State) (b : BankNo) : State :=
  s.onOp b (fun k => k == .hostRead) fun o => s.completeHostRead b o

/-- A host WRITE (R104). -/
def State.hostWriteCompletes (s : State) (b : BankNo) : State :=
  s.onOp b (fun k => k == .hostWrite) fun o => s.completeHostWrite b o

/-- A MERGE (R87, R104). -/
def State.mergeCompletes (s : State) (b : BankNo) : State :=
  s.onOp b (fun k => k == .hostMerge) fun o => s.completeMerge b o

/-- A fill segment (R33). -/
def State.fillSegmentCompletes (s : State) (b : BankNo) : State :=
  s.onOp b (fun k => k == .fillSegment) fun o => s.completeFill b o

/-- A scrub segment (R94). -/
def State.scrubSegmentCompletes (s : State) (b : BankNo) : State :=
  s.onOp b (fun k => k == .scrubSegment) fun o => s.completeScrub b o

/-- A descriptor fetch (R118), and the beat decision that an installation leads to (R156). -/
def State.fetchCompletes (s : State) (b : BankNo) : State :=
  match (s.bank b).op with
  | some o =>
    match o.kind with
    | .fetch n => (s.completeFetch b n o).decideBeat
    | _ => s
  | none => s

/-- A channel data read (R122), and the beat decision that new words lead to (R156). The channel considers its next request before the port decides, a
DESIGN CHOICE: one that is answered NOT_READY halts the channel, and no beat of it begins (log entry 25). -/
def State.channelReadCompletes (s : State) (b : BankNo) : State :=
  match (s.bank b).op with
  | some o =>
    match o.kind with
    | .dataRead n => (s.completeRead b n o).decideBeat
    | _ => s
  | none => s

/-- A channel data write (R123), and the beat decision that free slots lead to (R156). The channel considers its next request
first here too, a DESIGN CHOICE (log entry 25). -/
def State.channelWriteCompletes (s : State) (b : BankNo) : State :=
  match (s.bank b).op with
  | some o =>
    match o.kind with
    | .dataWrite n => (s.completeWrite b n o).decideBeat
    | _ => s
  | none => s

/-- A status write-back (R129). -/
def State.writebackCompletes (s : State) (b : BankNo) : State :=
  match (s.bank b).op with
  | some o =>
    match o.kind with
    | .writeback n => s.completeWriteback b n o
    | _ => s
  | none => s

/-- A REFRESH (R54): the balance falls by 1, the cursor advances, ACTIVE clears, and the skipping rule applies. Where a switch-off waits,
balance and cursor take the values of R58 in place of those. -/
def State.refreshCompletes (s : State) (b : BankNo) : State :=
  s.onOp b (fun k => k == .refresh) fun _ =>
    if (s.bank b).offWaiting then (s.clearOp b).setBalance b 0 0#8
    else ((s.clearOp b).settleOne b (-1)).applySkip b

/-- A CLOSE (R13). -/
def State.closeCompletes (s : State) (b : BankNo) : State :=
  s.onOp b (fun k => k == .close) fun _ => s.clearOp b

/-- A bank comes up READY and free with no open row, its page-hold timer stopped and its streak count 0, the refresh account as given, and
the skipping rule applies (R6, R20, R57, R60). -/
def State.comeUp (s : State) (b : BankNo) (balance : Int) (cursor : BitVec 8) : State :=
  let t := s.setBank b { s.bank b with state := .ready, settle := 0, openRow := none, holdTimer := none, op := none }
  ((t.setArb b { t.arb b with streak := 0 }).setBalance b balance cursor).applySkip b

/-- A WAKE (R6). -/
def State.wakeCompletes (s : State) (b : BankNo) : State :=
  s.onOp b (fun k => k == .wake) fun _ => (s.comeUp b 0 0#8).raise .bankReady

/-- A SELF-REFRESH ENTRY (R19). -/
def State.entryCompletes (s : State) (b : BankNo) : State :=
  s.onOp b (fun k => k == .selfRefreshEntry) fun _ =>
    (s.setBank b { s.bank b with state := .retained, op := none }).reportSettled

/-- The contents of bank `b` are lost: its words are blank (R19, log entry 11). -/
def State.loseContents (s : State) (b : BankNo) : State :=
  { s with array := s.array.filter fun e => e.1 / 2 ^ 20 != b.val }

/-- A POWER-DOWN (R19, R59). -/
def State.powerDownCompletes (s : State) (b : BankNo) : State :=
  s.onOp b (fun k => k == .powerDown) fun _ =>
    (((s.setBank b { s.bank b with state := .dormant, op := none }).setBalance b 0 (s.account b).cursor).loseContents
      b).reportSettled

/-- A SELF-REFRESH EXIT (R20, R60). -/
def State.exitCompletes (s : State) (b : BankNo) : State :=
  s.onOp b (fun k => k == .selfRefreshExit) fun _ => (s.comeUp b 4 (s.account b).cursor).reportSettled

/-- Whatever operation is in flight at `b` completes. -/
def State.opCompletes (s : State) (b : BankNo) : State :=
  match (s.bank b).op with
  | none => s
  | some o =>
    match o.kind with
    | .hostRead => s.hostReadCompletes b
    | .hostWrite => s.hostWriteCompletes b
    | .hostMerge => s.mergeCompletes b
    | .fetch _ => s.fetchCompletes b
    | .dataRead _ => s.channelReadCompletes b
    | .dataWrite _ => s.channelWriteCompletes b
    | .writeback _ => s.writebackCompletes b
    | .fillSegment => s.fillSegmentCompletes b
    | .scrubSegment => s.scrubSegmentCompletes b
    | .refresh => s.refreshCompletes b
    | .close => s.closeCompletes b
    | .wake => s.wakeCompletes b
    | .selfRefreshEntry => s.entryCompletes b
    | .powerDown => s.powerDownCompletes b
    | .selfRefreshExit => s.exitCompletes b

end Sys2Proof.Machine
end

