-- ==== Sys2Proof/Machine/OwnSteps.lean ====
section
/-! DEFINITION. OwnSteps.lean: the part's own steps: what the rules place within the same happening as its cause. Each says when it
is due and what it does; before a happening from outside is taken, every own step due is carried out (log entry 2). -/

namespace Sys2Proof.Machine

/-- The own steps: fourteen rows of the table. -/
inductive OwnStep where
  | deferredSwitchOff (b : BankNo)
  | retentionOrderStart (b : BankNo)
  | wakeStart (b : BankNo)
  | readDrainEnd
  | heldWriteAccept
  | abortReport (n : ChanNo)
  | channelPauseTakesEffect (n : ChanNo)
  | residualClear (n : ChanNo)
  | fillEngineTakeUp
  | bankGrant (b : BankNo)
  | commandBarrierEnd
  | quiesceComplete
  | retentionSettled
  | wakingComplete
  deriving DecidableEq, Repr

/-! ### Banks -/

/-- A READY bank has finished the operation that a switch-off waited for (R8). -/
def State.switchOffDue (s : State) (b : BankNo) : Bool := s.isFree b && (s.bank b).offWaiting

/-- The bank goes to OFF, and reports to the retention controller in ENTERING (R8, R18). -/
def State.switchOff (s : State) (b : BankNo) : State :=
  let t := s.goOff b
  if s.retention.state = .entering then t.reportSettled else t

/-- A READY bank has finished the operation that a retention order waited for (R18). -/
def State.orderDue (s : State) (b : BankNo) : Bool :=
  s.isFree b && !(s.bank b).offWaiting && (s.bank b).order.isSome

/-- The waiting order begins (R18). -/
def State.startOrder (s : State) (b : BankNo) : State :=
  match (s.bank b).order with
  | some o => s.beginOrder b o
  | none => s

/-- The settle count of a bank in INIT has reached 8 (R5). -/
def State.wakeDue (s : State) (b : BankNo) : Bool :=
  (s.bank b).state == .init && (s.bank b).op.isNone && decide (Config.settleTicks ≤ (s.bank b).settle)

/-- WAKE begins (R5, R6). -/
def State.startWake (s : State) (b : BankNo) : State := s.startClosed b .wake 0#22

/-! ### Due, and done -/

/-- The own step is due: its cause has happened and it has not. While RESET is asserted nothing is due. -/
def State.ownDue (s : State) (o : OwnStep) : Bool :=
  !s.resetAsserted &&
    match o with
    | .deferredSwitchOff b => s.switchOffDue b
    | .retentionOrderStart b => s.orderDue b
    | .wakeStart b => s.wakeDue b
    | .readDrainEnd => s.drainEndDue
    | .heldWriteAccept => s.heldWriteDue
    | .abortReport n => s.reportDue n
    | .channelPauseTakesEffect n => s.pauseDue n
    | .residualClear n => s.residualDue n
    | .fillEngineTakeUp => s.takeUpDue
    | .bankGrant b => s.grantDue b
    | .commandBarrierEnd => s.barrierDue
    | .quiesceComplete => s.quiesceDue
    | .retentionSettled => s.settledDue
    | .wakingComplete => s.wakingDue

/-- The own step. -/
def State.ownStep (s : State) (o : OwnStep) : State :=
  match o with
  | .deferredSwitchOff b => s.switchOff b
  | .retentionOrderStart b => s.startOrder b
  | .wakeStart b => s.startWake b
  | .readDrainEnd => s.drainEnd
  | .heldWriteAccept => s.heldWrite
  | .abortReport n => s.reportAbort n
  | .channelPauseTakesEffect n => s.pauseChan n
  | .residualClear n => s.clearResidual n
  | .fillEngineTakeUp => s.takeUp
  | .bankGrant b => s.grant b
  | .commandBarrierEnd => s.takeCommand
  | .quiesceComplete => s.completeQuiesce
  | .retentionSettled => s.settle
  | .wakingComplete => s.completeWaking

/-- An own step named by a command: done when due, else nothing happens. -/
def State.ownIfDue (s : State) (o : OwnStep) : State := if s.ownDue o then s.ownStep o else s

/-! ### Settlement -/

/-- The own steps in the order in which those due together are taken, a DESIGN CHOICE where the rules give none (log entry 2): what a completion
hands over and what it lets a requester ask for comes before the grant decisions (R64), the barrier and the retention controller come after
them. R9 has the results handed over before the bank leaves READY; that the check of a held write (R102) belongs to that handing over, and so
meets the bank still READY where a switch-off waits, is the model's choice. A queue that names DEFERRED_SWITCH_OFF first takes the other. -/
def ownOrder : List OwnStep :=
  [OwnStep.readDrainEnd, OwnStep.heldWriteAccept] ++ Four.indices.map OwnStep.deferredSwitchOff ++
    Four.indices.map OwnStep.retentionOrderStart ++ Four.indices.map OwnStep.wakeStart ++
    Four.indices.map OwnStep.abortReport ++ Four.indices.map OwnStep.channelPauseTakesEffect ++
    Four.indices.map OwnStep.residualClear ++ [OwnStep.fillEngineTakeUp] ++ Four.indices.map OwnStep.bankGrant ++
    [OwnStep.commandBarrierEnd, OwnStep.quiesceComplete, OwnStep.retentionSettled, OwnStep.wakingComplete]

/-- The first own step due. -/
def State.nextDue (s : State) : Option OwnStep := ownOrder.find? fun o => s.ownDue o

/-- At most `fuel` own steps, each the first one due. -/
def State.settleWith (s : State) : Nat → State
  | 0 => s
  | fuel + 1 =>
    match s.nextDue with
    | none => s
    | some o => State.settleWith (s.ownStep o) fuel

/-- The state in which no own step is due any more: the happening before is over with all it makes due. Each own step uses up what made it
due, and 128 exceed what the queues, banks and channels of one happening can hold; were they not enough, the rest would stay due. -/
def State.settled (s : State) : State := s.settleWith 128

/-- No own step is due. -/
def State.quiet (s : State) : Bool := s.nextDue.isNone

/-- A happening from outside the part, taken between happenings: nothing while RESET is asserted, else `f` on the settled state. -/
def State.happen (s : State) (f : State → State) : State := if s.resetAsserted then s else f s.settled

/-- A bus cycle begins: nothing while another is in progress, which holds the bus (R97). -/
def State.busCycle (s : State) (f : State → State) : State :=
  s.happen fun t => if t.host.cycle = .idle then f t else t

end Sys2Proof.Machine
end

