-- ==== Sys2Proof/Machine/Clock.lean ====
section
/-! DEFINITION. Clock.lean: reset, the tick, the page-hold expiry, and one MCLK period of a part to which nothing is
commanded (log entry 4). -/

namespace Sys2Proof.Machine

/-! ### Reset (R21, R41, R61, R78, R96, R113, R132, R151, R162, R174, R181, R184) -/

/-- RESET is asserted: every block takes its reset values at once. The array stays as it is found, the levels of RET_REQ and of the SRQ
lines are not the part's, and the tick timer stands until RESET is released. -/
def State.pinReset (s : State) : State :=
  { State.reset with
    pending := s.pending
    resetAsserted := true
    array := s.array
    tick := { running := false, count := 0 }
    stream := { State.reset.stream with srq := s.stream.srq }
    retention := { State.reset.retention with req := s.retention.req }
    ties := s.ties }

/-- RESET is released (R42, R174): the tick timer starts from zero, and with RET_REQ high the controller goes to QUIESCING. -/
def State.releaseReset (s : State) : State :=
  if s.resetAsserted then
    let t : State := { s with resetAsserted := false, tick := { running := true, count := 0 } }
    if t.retention.req then t.enterQuiescing else t
  else s

/-! ### Timers -/

/-- A refresh tick (R44): the scheduler and the settle counts bank by bank in ascending order, then the scrubber. A REFRESH request and a SCRUB
request may reach a bank together (R65). The scrubber's search (R92) reads the Row Group Table after the overruns of the same tick and finds
their groups LAPSED, a DESIGN CHOICE: R44 gives the three takers no order (log entry 25). -/
def State.refreshTick (s : State) : State :=
  s.meet (Four.indices.foldl (fun t b => t.tickBank b)
    ({ s with tick := { s.tick with count := 0 } } : State)).tickScrub

/-- The page-hold timer of `b` runs out with the bank free (R13). Requests that come from now on wait for the CLOSE, and are not together at
a free bank (R65). -/
def State.pageHoldExpires (s : State) (b : BankNo) : State :=
  if s.isFree b = true ∧ (s.bank b).holdTimer.isSome = true then
    let t := s.startClosed b .close 0#22
    t.setArb b { t.arb b with met := false }
  else s

/-! ### One MCLK period -/

/-- What the passing of time brings about. -/
inductive Timed where
  | tick | hold (b : BankNo) | op (b : BankNo)
  deriving DecidableEq, Repr

/-- Every running count rises by one period: the tick timer, the page-hold timers and the operations in flight. -/
def State.count (s : State) : State :=
  { s with
    tick := if s.tick.running then { s.tick with count := s.tick.count + 1 } else s.tick
    banks := s.banks.map fun k => { k with
      holdTimer := k.holdTimer.map fun h => { h with count := h.count + 1 }
      op := k.op.map fun o => { o with elapsed := o.elapsed + 1 } } }

/-- It has run its time: the tick period (R42), the page-hold period (R12) or the operation's periods (R22). -/
def State.timeUp (s : State) (x : Timed) : Bool :=
  match x with
  | .tick => s.tick.running && decide (tickPeriod s.config ≤ s.tick.count)
  | .hold b => (s.bank b).holdTimer.any fun h => decide (h.period ≤ h.count)
  | .op b => (s.bank b).op.any fun o => decide (s.totalPeriods o ≤ o.elapsed)

/-- It happens, if it still has run its time: a grant may have cancelled a page-hold timer (R13). -/
def State.timed (s : State) (x : Timed) : State :=
  if s.timeUp x then
    match x with
    | .tick => s.refreshTick
    | .hold b => s.pageHoldExpires b
    | .op b => s.opCompletes b
  else s

/-- All that time can bring about. -/
def allTimed : List Timed := Four.indices.map Timed.op ++ Four.indices.map Timed.hold ++ [Timed.tick]

/-- One MCLK period: the counts rise, and what has run its time happens, several together in an order the spec leaves open. -/
def State.clock (s : State) : State :=
  if s.resetAsserted then s
  else
    let t := s.settled.count
    t.forTogether (allTimed.filter fun x => t.timeUp x) fun x u => u.settled.timed x

end Sys2Proof.Machine
end

