-- ==== Sys2Proof/Machine/ExecClock.lean ====
section
/-! DEFINITION. ExecClock.lean: the meanings of the rows that are reset and the timers. -/

namespace Sys2Proof.Machine

/-- PIN_RESET (R21): RESET is asserted. -/
def execPinReset (s : State) : Host.Outcome State Fault Refusal :=
  .next (s.pinReset)

/-- RESET_RELEASE (R42, R174): RESET is released. -/
def execResetRelease (s : State) : Host.Outcome State Fault Refusal :=
  .next (s.releaseReset)

/-- REFRESH_TICK (R44): the tick timer fires. -/
def execRefreshTick (s : State) : Host.Outcome State Fault Refusal :=
  .next (s.happen fun t => t.refreshTick)

/-- PAGE_HOLD_EXPIRY (R13): the page-hold timer of bank `b` runs out with the bank free. -/
def execPageHoldExpiry (b : BankNo) (s : State) : Host.Outcome State Fault Refusal :=
  .next (s.happen fun t => t.pageHoldExpires b)

end Sys2Proof.Machine
end

