-- ==== Sys2Proof/Machine/ExecCommand.lean ====
section
/-! DEFINITION. ExecCommand.lean: the meanings of the rows that are writes to COMMAND (R108 to R110, R186). -/

namespace Sys2Proof.Machine

/-- BANK_ON (R4): code 0x01 is written to COMMAND. -/
def execBankOn (upper : BitVec 24) (s : State) : Host.Outcome State Fault Refusal :=
  .next (s.busCycle fun t => t.issue (commandWord upper 0x01#8))

/-- BANK_OFF (R7): code 0x02 is written to COMMAND. -/
def execBankOff (upper : BitVec 24) (s : State) : Host.Outcome State Fault Refusal :=
  .next (s.busCycle fun t => t.issue (commandWord upper 0x02#8))

/-- FILL (R27): code 0x03 is written to COMMAND. -/
def execFill (upper : BitVec 24) (s : State) : Host.Outcome State Fault Refusal :=
  .next (s.busCycle fun t => t.issue (commandWord upper 0x03#8))

/-- RELEASE (R37): code 0x04 is written to COMMAND. -/
def execRelease (upper : BitVec 24) (s : State) : Host.Outcome State Fault Refusal :=
  .next (s.busCycle fun t => t.issue (commandWord upper 0x04#8))

/-- QUERY (R39): code 0x05 is written to COMMAND. -/
def execQuery (upper : BitVec 24) (s : State) : Host.Outcome State Fault Refusal :=
  .next (s.busCycle fun t => t.issue (commandWord upper 0x05#8))

/-- LOG_POP (R180): code 0x06 is written to COMMAND. -/
def execLogPop (upper : BitVec 24) (s : State) : Host.Outcome State Fault Refusal :=
  .next (s.busCycle fun t => t.issue (commandWord upper 0x06#8))

/-- SOFT_RESET (R112): code 0x1F is written to COMMAND. -/
def execSoftReset (upper : BitVec 24) (s : State) : Host.Outcome State Fault Refusal :=
  .next (s.busCycle fun t => t.issue (commandWord upper 0x1F#8))

/-- CH_START (R137): code 0x10 and channel number `n` are written to COMMAND. -/
def execChStart (n : ChanNo) (upper : BitVec 22) (s : State) : Host.Outcome State Fault Refusal :=
  .next (s.busCycle fun t => t.issue (channelCommandWord upper n 0x10#8))

/-- CH_PAUSE (R138): code 0x11 and channel number `n` are written to COMMAND. -/
def execChPause (n : ChanNo) (upper : BitVec 22) (s : State) : Host.Outcome State Fault Refusal :=
  .next (s.busCycle fun t => t.issue (channelCommandWord upper n 0x11#8))

/-- CH_RESUME (R139): code 0x12 and channel number `n` are written to COMMAND. -/
def execChResume (n : ChanNo) (upper : BitVec 22) (s : State) : Host.Outcome State Fault Refusal :=
  .next (s.busCycle fun t => t.issue (channelCommandWord upper n 0x12#8))

/-- CH_ABORT (R140): code 0x13 and channel number `n` are written to COMMAND. -/
def execChAbort (n : ChanNo) (upper : BitVec 22) (s : State) : Host.Outcome State Fault Refusal :=
  .next (s.busCycle fun t => t.issue (channelCommandWord upper n 0x13#8))

/-- CH_RESET (R143): code 0x14 and channel number `n` are written to COMMAND. -/
def execChReset (n : ChanNo) (upper : BitVec 22) (s : State) : Host.Outcome State Fault Refusal :=
  .next (s.busCycle fun t => t.issue (channelCommandWord upper n 0x14#8))

/-- UNKNOWN_COMMAND (R186): a code that names no command is written to COMMAND. -/
def execUnknownCommand (word : Word) (s : State) : Host.Outcome State Fault Refusal :=
  .next (s.busCycle fun t => t.issue word)

end Sys2Proof.Machine
end

