-- ==== Sys2Proof/Machine/ExecComplete.lean ====
section
/-! DEFINITION. ExecComplete.lean: the meanings of the rows that complete a bank operation. Each acts on the settled state, and does nothing
when no operation of its kind is in flight at its bank (log entry 3). -/

namespace Sys2Proof.Machine

/-- HOST_READ_COMPLETE (R101), at bank `b`. -/
def execHostReadComplete (b : BankNo) (s : State) : Host.Outcome State Fault Refusal :=
  .next (s.happen fun t => t.hostReadCompletes b)

/-- HOST_WRITE_COMPLETE (R104), at bank `b`. -/
def execHostWriteComplete (b : BankNo) (s : State) : Host.Outcome State Fault Refusal :=
  .next (s.happen fun t => t.hostWriteCompletes b)

/-- MERGE_COMPLETE (R87, R104), at bank `b`. -/
def execMergeComplete (b : BankNo) (s : State) : Host.Outcome State Fault Refusal :=
  .next (s.happen fun t => t.mergeCompletes b)

/-- FILL_SEGMENT_COMPLETE (R33), at bank `b`. -/
def execFillSegmentComplete (b : BankNo) (s : State) : Host.Outcome State Fault Refusal :=
  .next (s.happen fun t => t.fillSegmentCompletes b)

/-- SCRUB_SEGMENT_COMPLETE (R94), at bank `b`. -/
def execScrubSegmentComplete (b : BankNo) (s : State) : Host.Outcome State Fault Refusal :=
  .next (s.happen fun t => t.scrubSegmentCompletes b)

/-- DESCRIPTOR_FETCH_COMPLETE (R118), at bank `b`. -/
def execDescriptorFetchComplete (b : BankNo) (s : State) : Host.Outcome State Fault Refusal :=
  .next (s.happen fun t => t.fetchCompletes b)

/-- CHANNEL_READ_COMPLETE (R122), at bank `b`. -/
def execChannelReadComplete (b : BankNo) (s : State) : Host.Outcome State Fault Refusal :=
  .next (s.happen fun t => t.channelReadCompletes b)

/-- CHANNEL_WRITE_COMPLETE (R123, R124, R125), at bank `b`. -/
def execChannelWriteComplete (b : BankNo) (s : State) : Host.Outcome State Fault Refusal :=
  .next (s.happen fun t => t.channelWriteCompletes b)

/-- WRITEBACK_COMPLETE (R129), at bank `b`. -/
def execWritebackComplete (b : BankNo) (s : State) : Host.Outcome State Fault Refusal :=
  .next (s.happen fun t => t.writebackCompletes b)

/-- REFRESH_COMPLETE (R54), at bank `b`. -/
def execRefreshComplete (b : BankNo) (s : State) : Host.Outcome State Fault Refusal :=
  .next (s.happen fun t => t.refreshCompletes b)

/-- CLOSE_COMPLETE (R13), at bank `b`. -/
def execCloseComplete (b : BankNo) (s : State) : Host.Outcome State Fault Refusal :=
  .next (s.happen fun t => t.closeCompletes b)

/-- WAKE_COMPLETE (R6), at bank `b`. -/
def execWakeComplete (b : BankNo) (s : State) : Host.Outcome State Fault Refusal :=
  .next (s.happen fun t => t.wakeCompletes b)

/-- SELF_REFRESH_ENTRY_COMPLETE (R19), at bank `b`. -/
def execSelfRefreshEntryComplete (b : BankNo) (s : State) : Host.Outcome State Fault Refusal :=
  .next (s.happen fun t => t.entryCompletes b)

/-- POWER_DOWN_COMPLETE (R19), at bank `b`. -/
def execPowerDownComplete (b : BankNo) (s : State) : Host.Outcome State Fault Refusal :=
  .next (s.happen fun t => t.powerDownCompletes b)

/-- SELF_REFRESH_EXIT_COMPLETE (R20), at bank `b`. -/
def execSelfRefreshExitComplete (b : BankNo) (s : State) : Host.Outcome State Fault Refusal :=
  .next (s.happen fun t => t.exitCompletes b)

end Sys2Proof.Machine
end

