-- ==== Sys2Proof/Machine/Registers.lean ====
section
/-! DEFINITION. Registers.lean: the register window (R107, R185): what each register reads as, in the layouts of chapter 12, and what a
write to each does. -/

namespace Sys2Proof.Machine

/-! ### Reading -/

/-- The value `v` with its lowest bit at position `pos` of a register word. -/
def field (v pos : Nat) : Word := BitVec.ofNat 32 (v * 2 ^ pos)

/-- A flag at position `pos`. -/
def flag (f : Bool) (pos : Nat) : Word := if f then field 1 pos else 0#32

/-- CONFIG (12.2). -/
def State.readConfig (s : State) : Word :=
  let c := s.config
  field c.tickdiv.toNat 0 ||| field c.hold.toNat 8 ||| flag c.cwb 15 ||| field c.weakThreshold.toNat 16 |||
    field c.scrubRate 20

/-- CONFIG2 (12.2). -/
def State.readConfig2 (s : State) : Word :=
  let t := s.timing
  flag (s.fitted.get 0) 0 ||| flag (s.fitted.get 1) 1 ||| flag (s.fitted.get 2) 2 ||| flag (s.fitted.get 3) 3 |||
    field t.tOpen 4 ||| field t.tCol 8 ||| field t.tClose 12 ||| field t.tRef 16 ||| field t.tSrx 22

/-- The code of OUTCOME (12.2). -/
def outcomeNumber (o : CommandOutcome) : Nat :=
  match o with
  | .none => 0
  | .taken => 1
  | .refused => 2

/-- The code of REASON (12.2). -/
def reasonNumber (r : Reason) : Nat :=
  match r with
  | .none => 0
  | .state => 1
  | .arg => 2
  | .full => 3
  | .retention => 4

/-- The code of a group state (12.2). -/
def groupStateNumber (g : GroupState) : Nat :=
  match g with
  | .discard => 0
  | .fillPending => 1
  | .filling => 2
  | .keep => 3
  | .lapsed => 4

/-- CMD_STATUS (12.2). -/
def State.readCmdStatus (s : State) : Word :=
  let c := s.cmdStatus
  field (outcomeNumber c.outcome) 0 ||| field (reasonNumber c.reason) 4 ||| field c.code.toNat 8 |||
    field (groupStateNumber c.resultState) 16 ||| field c.resultWeak 20

/-- CHECK_OVERRIDE (12.2). -/
def State.readOverride (s : State) : Word := field s.override.check.toNat 0 ||| flag s.override.armed 31

/-- The code of a bank state (12.3). -/
def bankStateNumber (x : BankState) : Nat :=
  match x with
  | .off => 0
  | .init => 1
  | .ready => 2
  | .entering => 3
  | .retained => 4
  | .dormant => 5
  | .exiting => 6

/-- BANK_STATUS (12.3). -/
def State.readBankStatus (s : State) : Word :=
  Four.indices.foldl (fun acc b =>
    acc ||| field (bankStateNumber (s.bank b).state) (8 * b.val) ||| flag (s.bank b).openRow.isSome (8 * b.val + 3)) 0#32

/-- FILL_STATUS (R36, 12.3). -/
def State.readFillStatus (s : State) : Word :=
  field s.fill.queue.length 0 ||| field s.engineCode 4 ||| flag s.fill.ending 7 |||
    field (if s.fillingGroup.isSome then s.fill.segment else 0) 8 |||
    field ((s.fill.queue.head?.map FillEntry.next).getD 0) 16

/-- HOST_STATUS (R103). -/
def State.readHostStatus (s : State) : Word := field s.host.queue.length 0

/-- The code of a scrubber state (12.3). -/
def scrubStateNumber (x : ScrubState) : Nat :=
  match x with
  | .idle => 0
  | .wait => 1
  | .active => 2
  | .held => 3

/-- SCRUB_STATUS (12.3). -/
def State.readScrubStatus (s : State) : Word :=
  let c := s.scrub
  field c.segment.toNat 0 ||| field c.row.toNat 5 ||| field c.bank.val 16 ||| field c.credits 20 |||
    field (scrubStateNumber c.state) 28

/-- STREAM_STATUS (R154, 12.3). -/
def State.readStreamStatus (s : State) : Word :=
  let p := s.stream
  flag p.beat.isSome 0 ||| field p.beatCh.val 1 ||| flag (p.beat.any fun x => x.residual) 3 ||| field p.rot.val 4 |||
    Four.indices.foldl (fun acc n => acc ||| flag (p.srq.get n) (8 + n.val)) 0#32

/-- The code of a retention state (12.3). -/
def retentionNumber (x : RetentionState) : Nat :=
  match x with
  | .normal => 0
  | .quiescing => 1
  | .denied => 2
  | .entering => 3
  | .retained => 4
  | .waking => 5

/-- The level of RET_ACK: high in RETAINED and WAKING (R170, R173). -/
def State.retAck (s : State) : Bool := s.retention.state == .retained || s.retention.state == .waking

/-- The level of RET_ERR: high in DENIED (R168). -/
def State.retErr (s : State) : Bool := s.retention.state == .denied

/-- RET_STATUS (R163, 12.3). -/
def State.readRetStatus (s : State) : Word :=
  field (retentionNumber s.retention.state) 0 ||| flag s.retention.req 4 ||| flag s.retAck 5 ||| flag s.retErr 6 |||
    flag s.waitCh 8 ||| flag s.waitFill 9 ||| flag s.waitQueue 10 ||| flag s.waitInit 11 ||| field s.retention.unsettled 12

/-- The code of an urgency (12.3). -/
def urgencyNumber (u : Urgency) : Nat :=
  match u with
  | .none => 0
  | .opportunistic => 1
  | .background => 2
  | .normal => 3
  | .urgent => 4

/-- REF_STATUS of bank `b` (R46, 12.3). -/
def State.readRefStatus (s : State) (b : BankNo) : Word :=
  let a := s.account b
  field (BitVec.ofInt 5 a.balance).toNat 0 ||| field a.cursor.toNat 8 ||| field (urgencyNumber (s.urgency b)) 16 |||
    flag (s.refreshing b) 20

/-- ARB_STATUS of bank `b` (R77, 12.3). -/
def State.readArbStatus (s : State) (b : BankNo) : Word :=
  let a := s.arb b
  flag (s.refreshRequest b != .none) 0 ||| flag a.host.isSome 1 |||
    Four.indices.foldl (fun acc n => acc ||| flag (a.ch.get n).isSome (2 + n.val)) 0#32 |||
    flag a.fill.isSome 6 ||| flag a.scrub.isSome 7 ||| field a.streak 8 ||| field a.rotPos.val 16 ||| field a.hitPos.val 20 |||
    flag (s.capped b) 24

/-- LOG_STATUS (R180, 12.3). -/
def State.readLogStatus (s : State) : Word :=
  field s.log.records.length 0 ||| field s.log.nextSeq.toNat 8 ||| field s.log.overflow 16

/-- The code of a kind of record (12.6). -/
def kindNumber (k : RecordKind) : Nat :=
  match k with
  | .corrected => 1
  | .uncorrectable => 2
  | .mergeFailed => 3
  | .writeFailed => 4
  | .lapse => 5
  | .weak => 6
  | .channelFault => 7

/-- The code of a source (12.6). -/
def sourceNumber (x : Source) : Nat :=
  match x with
  | .host => 0
  | .ch n => 1 + n.val
  | .scrub => 6
  | .refresh => 7

/-- The fault codes (12.4). -/
def faultNumber (f : FaultCode) : Nat :=
  match f with
  | .none => 0
  | .descField => 1
  | .descAlign => 2
  | .range => 3
  | .overlap => 4
  | .fence => 5
  | .descUncorrectable => 6
  | .groupState => 7
  | .bankState => 8
  | .readUncorrectable => 9
  | .writeback => 10

/-- LOG_WORD0 to LOG_WORD3 for the head record `r` (12.6). -/
def logWord (r : Record) (k : Nat) : Word :=
  let f := r.finding
  match k with
  | 0 => field (kindNumber f.kind) 0 ||| field (sourceNumber f.source) 4 ||| field r.seq.toNat 8 ||| field r.repeats 16 |||
      flag f.addr.isSome 20 ||| field (faultNumber f.fault) 24
  | 1 => field ((f.addr.map BitVec.toNat).getD 0) 2 ||| field ((f.group.map BitVec.toNat).getD 0) 0
  | 2 =>
    match f.syndrome with
    | none => 0#32
    | some y => field y.s.toNat 0 ||| flag y.p 6
  | _ => field ((f.desc.map BitVec.toNat).getD 0) 4

/-- LOG_WORDk of the log: zeros when it is empty (R180). -/
def State.readLogWord (s : State) (k : Nat) : Word :=
  match s.log.records with
  | [] => 0#32
  | r :: _ => logWord r k

/-- The code of a channel state (12.4). -/
def chStateNumber (x : ChState) : Nat :=
  match x with
  | .idle => 0
  | .loading => 1
  | .active => 2
  | .paused => 3
  | .halted => 4

/-- The code of STOP (12.4). -/
def stopNumber (x : StopReason) : Nat :=
  match x with
  | .none => 0
  | .ended => 1
  | .aborted => 2
  | .fault => 3

/-- CHn_STATUS (R133, 12.4). -/
def chStatus (c : Channel) : Word :=
  field (chStateNumber c.state) 0 ||| flag c.pauses.host 4 ||| flag c.pauses.retention 5 ||| flag c.pauses.unowned 6 |||
    field (stopNumber c.stop) 8 ||| field (faultNumber c.fault) 12 ||| flag c.aborting 16 ||| flag c.residual 17

/-- The registers of one channel, by their word number within the channel's eight (12.1, 12.4). -/
def chRegister (c : Channel) (k : Nat) : Word :=
  match k with
  | 0 => chStatus c
  | 1 => field c.desc.toNat 4
  | 2 => field c.remaining 0 ||| field c.fifo.length 16
  | 3 => field c.done.toNat 0
  | 4 => field c.fenceBase.toNat 2
  | 5 => field c.fenceLimit.toNat 2
  | _ => 0#32

/-- The bank, channel or record number that the low bits of a register number name. -/
def lowNumber (reg : BitVec 6) : Fin 4 := (reg.extractLsb' 0 2).toFin

/-- What a register-window read of register number `reg` (HA[7:2]) returns (R107, R185); it has no side effect, so it is a
function of the state and no command. A number that lists no register reads as zero. -/
def State.registerRead (s : State) (reg : BitVec 6) : Word :=
  match reg.toNat with
  | 0x00 => Config.idWord
  | 0x01 => s.readConfig
  | 0x02 => s.readConfig2
  | 0x03 => s.command
  | 0x04 => s.arg
  | 0x05 => s.readCmdStatus
  | 0x06 => s.eventFlags.setWidth 32
  | 0x07 => s.events.enable.setWidth 32
  | 0x08 => s.readBankStatus
  | 0x09 => s.readFillStatus
  | 0x0A => s.readHostStatus
  | 0x0B => s.readOverride
  | 0x0C => s.readScrubStatus
  | 0x0D => field s.scrub.pass.toNat 0
  | 0x0E => s.readStreamStatus
  | 0x0F => s.readRetStatus
  | 0x10 | 0x11 | 0x12 | 0x13 => s.readRefStatus (lowNumber reg)
  | 0x14 | 0x15 | 0x16 | 0x17 => s.readArbStatus (lowNumber reg)
  | 0x18 => s.readLogStatus
  | 0x19 => s.readLogWord 0
  | 0x1A => s.readLogWord 1
  | 0x1B => s.readLogWord 2
  | 0x1C => s.readLogWord 3
  | k => if 0x20 ≤ k then chRegister (s.chan (reg.extractLsb' 3 2).toFin) (k % 8) else 0#32

/-- A register-window read as the host sees it: served between happenings, when nothing is left due (log entry 2). -/
def State.busRegisterRead (s : State) (reg : BitVec 6) : Word := s.settled.registerRead reg

/-! ### Writing -/

/-- A write to CONFIG (R12, R42, R43, R84, R85, R91): its fields are stored, and a change of TICKDIV restarts the tick timer. -/
def State.writeConfig (s : State) (x : Word) : State :=
  let c := configFields x
  { s with
    config := c
    tick := if c.tickdiv = s.config.tickdiv then s.tick else { s.tick with count := 0 } }

/-- A write to CONFIG2 (R2, R22): the timing fields are stored, and the FITTED flags of banks that are OFF. -/
def State.writeConfig2 (s : State) (x : Word) : State :=
  let f (b : BankNo) : Bool := if (s.bank b).state = .off then x.getLsbD b.val else s.fitted.get b
  { s with timing := timingFields x, fitted := ⟨f 0, f 1, f 2, f 3⟩ }

/-- A write to CHECK_OVERRIDE (R88). -/
def State.writeOverride (s : State) (x : Word) : State :=
  { s with override := { armed := x.getLsbD 31, check := x.setWidth 7 } }

/-- A write to FENCE_LIMIT of channel `n` when `limit`, else to its FENCE_BASE (R144): it takes effect on a channel that is IDLE or HALTED
with RESIDUAL clear, and raises REFUSED on any other. -/
def State.writeFence (s : State) (n : ChanNo) (limit : Bool) (x : Word) : State :=
  let c := s.chan n
  if (c.state = .idle ∨ c.state = .halted) ∧ c.residual = false then
    s.setChan n (if limit then { c with fenceLimit := wordAddrOf x } else { c with fenceBase := wordAddrOf x })
  else s.raise .refused

/-- A write to EVENT_FLAGS (R182). LOG is not held among the sticky flags, so a 1 in its position clears nothing. -/
def State.writeEventFlags (s : State) (x : Word) : State :=
  { s with events := { s.events with sticky := s.events.sticky &&& ~~~(x.setWidth 17) } }

/-- A write to EVENT_ENABLE (R183). -/
def State.writeEventEnable (s : State) (x : Word) : State :=
  { s with events := { s.events with enable := x.setWidth 17 } }

/-- A register-window write to register number `reg` other than COMMAND (R107, R185): the owner's store, and none for a read-only
register or a number that lists no register. -/
def State.storeRegister (s : State) (reg : BitVec 6) (x : Word) : State :=
  match reg.toNat with
  | 0x01 => s.writeConfig x
  | 0x02 => s.writeConfig2 x
  | 0x04 => { s with arg := x }
  | 0x06 => s.writeEventFlags x
  | 0x07 => s.writeEventEnable x
  | 0x0B => s.writeOverride x
  | k =>
    if 0x20 ≤ k ∧ k % 8 = 4 then s.writeFence (reg.extractLsb' 3 2).toFin false x
    else if 0x20 ≤ k ∧ k % 8 = 5 then s.writeFence (reg.extractLsb' 3 2).toFin true x
    else s

/-- A register-window write cycle on an idle bus (R107, R109). -/
def State.registerCycle (s : State) (reg : BitVec 6) (x : Word) : State :=
  if reg = 3#6 then s.issue x else (s.storeRegister reg x).endCycle (.ready none)

end Sys2Proof.Machine
end

