-- ==== Sys2Proof/Machine/ExecHost.lean ====
section
/-! DEFINITION. ExecHost.lean: the meanings of the rows that are cycles of the host bus, the writes to COMMAND apart. Each acts on the settled
state of an idle bus; while another cycle is in progress it does nothing (log entry 3). -/

namespace Sys2Proof.Machine

/-- MEMORY_READ (R99, R100): a read of the memory window. -/
def execMemoryRead (addr : WordAddr) (s : State) : Host.Outcome State Fault Refusal :=
  .next (s.busCycle fun t => if t.windowOpen addr then t.startRead addr else t.endCycle .error)

/-- MEMORY_WRITE (R102): a write of the memory window. -/
def execMemoryWrite (addr : WordAddr) (lanes : BitVec 4) (data : Word) (s : State) : Host.Outcome State Fault Refusal :=
  .next (s.busCycle fun t => t.startWrite addr lanes data)

/-- DOUBLE_SELECT (R97): both chip selects are asserted. -/
def execDoubleSelect (s : State) : Host.Outcome State Fault Refusal :=
  .next (s.busCycle fun t => t.endCycle .error)

/-- REGISTER_WRITE (R107, R185): a write of the register window. -/
def execRegisterWrite (reg : BitVec 6) (data : Word) (s : State) : Host.Outcome State Fault Refusal :=
  .next (s.busCycle fun t => t.registerCycle reg data)

/-- CONFIG_WRITE (R43, R107). -/
def execConfigWrite (data : Word) (s : State) : Host.Outcome State Fault Refusal :=
  .next (s.busCycle fun t => (t.writeConfig data).endCycle (.ready none))

/-- CONFIG2_WRITE (R2, R22, R107). -/
def execConfig2Write (data : Word) (s : State) : Host.Outcome State Fault Refusal :=
  .next (s.busCycle fun t => (t.writeConfig2 data).endCycle (.ready none))

/-- CHECK_OVERRIDE_WRITE (R88, R107). -/
def execCheckOverrideWrite (data : Word) (s : State) : Host.Outcome State Fault Refusal :=
  .next (s.busCycle fun t => (t.writeOverride data).endCycle (.ready none))

/-- FENCE_WRITE (R144, R107). -/
def execFenceWrite (n : ChanNo) (limit : Bool) (data : Word) (s : State) : Host.Outcome State Fault Refusal :=
  .next (s.busCycle fun t => (t.writeFence n limit data).endCycle (.ready none))

/-- EVENT_FLAGS_WRITE (R182, R107). -/
def execEventFlagsWrite (data : Word) (s : State) : Host.Outcome State Fault Refusal :=
  .next (s.busCycle fun t => (t.writeEventFlags data).endCycle (.ready none))

/-- EVENT_ENABLE_WRITE (R183, R107). -/
def execEventEnableWrite (data : Word) (s : State) : Host.Outcome State Fault Refusal :=
  .next (s.busCycle fun t => (t.writeEventEnable data).endCycle (.ready none))

end Sys2Proof.Machine
end

