-- ==== Sys2Proof/Machine/ExecOwn.lean ====
section
/-! DEFINITION. ExecOwn.lean: the meanings of the rows that are the part's own steps (log entry 2). Each is carried out when due, and does
nothing when not (log entry 3). -/

namespace Sys2Proof.Machine

/-- WAKE_START (R5). -/
def execWakeStart (b : BankNo) (s : State) : Host.Outcome State Fault Refusal :=
  .next (s.ownIfDue (.wakeStart b))

/-- BANK_GRANT (R64, R71). -/
def execBankGrant (b : BankNo) (s : State) : Host.Outcome State Fault Refusal :=
  .next (s.ownIfDue (.bankGrant b))

/-- CHANNEL_PAUSE_TAKES_EFFECT (R134). -/
def execChannelPauseTakesEffect (n : ChanNo) (s : State) : Host.Outcome State Fault Refusal :=
  .next (s.ownIfDue (.channelPauseTakesEffect n))

/-- ABORT_REPORT (R141). -/
def execAbortReport (n : ChanNo) (s : State) : Host.Outcome State Fault Refusal :=
  .next (s.ownIfDue (.abortReport n))

/-- RESIDUAL_CLEAR (R136). -/
def execResidualClear (n : ChanNo) (s : State) : Host.Outcome State Fault Refusal :=
  .next (s.ownIfDue (.residualClear n))

/-- DEFERRED_SWITCH_OFF (R8). -/
def execDeferredSwitchOff (b : BankNo) (s : State) : Host.Outcome State Fault Refusal :=
  .next (s.ownIfDue (.deferredSwitchOff b))

/-- RETENTION_ORDER_START (R18). -/
def execRetentionOrderStart (b : BankNo) (s : State) : Host.Outcome State Fault Refusal :=
  .next (s.ownIfDue (.retentionOrderStart b))

/-- FILL_ENGINE_TAKE_UP (R30). -/
def execFillEngineTakeUp (s : State) : Host.Outcome State Fault Refusal :=
  .next (s.ownIfDue .fillEngineTakeUp)

/-- READ_DRAIN_END (R100). -/
def execReadDrainEnd (s : State) : Host.Outcome State Fault Refusal :=
  .next (s.ownIfDue .readDrainEnd)

/-- HELD_WRITE_ACCEPT (R102). -/
def execHeldWriteAccept (s : State) : Host.Outcome State Fault Refusal :=
  .next (s.ownIfDue .heldWriteAccept)

/-- COMMAND_BARRIER_END (R109). -/
def execCommandBarrierEnd (s : State) : Host.Outcome State Fault Refusal :=
  .next (s.ownIfDue .commandBarrierEnd)

/-- QUIESCE_COMPLETE (R165). -/
def execQuiesceComplete (s : State) : Host.Outcome State Fault Refusal :=
  .next (s.ownIfDue .quiesceComplete)

/-- RETENTION_SETTLED (R170). -/
def execRetentionSettled (s : State) : Host.Outcome State Fault Refusal :=
  .next (s.ownIfDue .retentionSettled)

/-- WAKING_COMPLETE (R173). -/
def execWakingComplete (s : State) : Host.Outcome State Fault Refusal :=
  .next (s.ownIfDue .wakingComplete)

end Sys2Proof.Machine
end

