-- ==== Sys2Proof/Machine/ExecPins.lean ====
section
/-! DEFINITION. ExecPins.lean: the meanings of the rows that are changes of the stream and retention lines (chapters 9 and 10). -/

namespace Sys2Proof.Machine

/-- SRQ_ASSERT (R157): SRQn rises, and a beat decision is made (R156). While RESET is asserted only the level changes. -/
def execSrqAssert (n : ChanNo) (s : State) : Host.Outcome State Fault Refusal :=
  .next (if s.resetAsserted then s.setSrq n true else (s.settled.setSrq n true).decideBeat)

/-- SRQ_DEASSERT (R157): SRQn falls with no beat of channel `n` in progress, which lowers the level. With one in progress the fall
is the take, which is another row. -/
def execSrqDeassert (n : ChanNo) (s : State) : Host.Outcome State Fault Refusal :=
  .next (if s.resetAsserted then s.setSrq n false else if s.settled.beatOf n then s.settled else s.settled.setSrq n false)

/-- STREAM_TAKE (R153): SRQn falls with a beat of channel `n` in progress. -/
def execStreamTake (n : ChanNo) (sd : Word) (slast : Bool) (s : State) : Host.Outcome State Fault Refusal :=
  .next (s.happen fun t =>
    match t.stream.beat with
    | some x => if x.ch = n then t.take x sd slast else t
    | none => t)

/-- RET_REQ_RISE (R164). While RESET is asserted only the level changes. -/
def execRetReqRise (s : State) : Host.Outcome State Fault Refusal :=
  .next (if s.resetAsserted then { s with retention := { s.retention with req := true } }
    else if s.settled.retention.req then s.settled else s.settled.retReqRises)

/-- RET_REQ_FALL (R167, R168, R171). While RESET is asserted only the level changes. -/
def execRetReqFall (s : State) : Host.Outcome State Fault Refusal :=
  .next (if s.resetAsserted then { s with retention := { s.retention with req := false } }
    else if s.settled.retention.req then s.settled.retReqFalls else s.settled)

end Sys2Proof.Machine
end

