-- ==== Sys2Proof/Machine/Dispatch.lean ====
section
/-! DEFINITION. Dispatch.lean: one arm per command, each one direct call of its meaning. -/

namespace Sys2Proof.Machine

def exec (i : Instr) (s : State) : Host.Outcome State Fault Refusal :=
  match i with
  | .pinReset => Sys2Proof.Machine.execPinReset s
  | .resetRelease => Sys2Proof.Machine.execResetRelease s
  | .refreshTick => Sys2Proof.Machine.execRefreshTick s
  | .wakeStart b => Sys2Proof.Machine.execWakeStart b s
  | .pageHoldExpiry b => Sys2Proof.Machine.execPageHoldExpiry b s
  | .bankGrant b => Sys2Proof.Machine.execBankGrant b s
  | .hostReadComplete b => Sys2Proof.Machine.execHostReadComplete b s
  | .hostWriteComplete b => Sys2Proof.Machine.execHostWriteComplete b s
  | .mergeComplete b => Sys2Proof.Machine.execMergeComplete b s
  | .fillSegmentComplete b => Sys2Proof.Machine.execFillSegmentComplete b s
  | .scrubSegmentComplete b => Sys2Proof.Machine.execScrubSegmentComplete b s
  | .descriptorFetchComplete b => Sys2Proof.Machine.execDescriptorFetchComplete b s
  | .channelReadComplete b => Sys2Proof.Machine.execChannelReadComplete b s
  | .channelWriteComplete b => Sys2Proof.Machine.execChannelWriteComplete b s
  | .writebackComplete b => Sys2Proof.Machine.execWritebackComplete b s
  | .channelPauseTakesEffect n => Sys2Proof.Machine.execChannelPauseTakesEffect n s
  | .abortReport n => Sys2Proof.Machine.execAbortReport n s
  | .residualClear n => Sys2Proof.Machine.execResidualClear n s
  | .refreshComplete b => Sys2Proof.Machine.execRefreshComplete b s
  | .closeComplete b => Sys2Proof.Machine.execCloseComplete b s
  | .wakeComplete b => Sys2Proof.Machine.execWakeComplete b s
  | .selfRefreshEntryComplete b => Sys2Proof.Machine.execSelfRefreshEntryComplete b s
  | .powerDownComplete b => Sys2Proof.Machine.execPowerDownComplete b s
  | .selfRefreshExitComplete b => Sys2Proof.Machine.execSelfRefreshExitComplete b s
  | .deferredSwitchOff b => Sys2Proof.Machine.execDeferredSwitchOff b s
  | .retentionOrderStart b => Sys2Proof.Machine.execRetentionOrderStart b s
  | .fillEngineTakeUp => Sys2Proof.Machine.execFillEngineTakeUp s
  | .memoryRead addr => Sys2Proof.Machine.execMemoryRead addr s
  | .readDrainEnd => Sys2Proof.Machine.execReadDrainEnd s
  | .memoryWrite addr lanes data => Sys2Proof.Machine.execMemoryWrite addr lanes data s
  | .heldWriteAccept => Sys2Proof.Machine.execHeldWriteAccept s
  | .doubleSelect => Sys2Proof.Machine.execDoubleSelect s
  | .registerWrite reg data => Sys2Proof.Machine.execRegisterWrite reg data s
  | .configWrite data => Sys2Proof.Machine.execConfigWrite data s
  | .config2Write data => Sys2Proof.Machine.execConfig2Write data s
  | .checkOverrideWrite data => Sys2Proof.Machine.execCheckOverrideWrite data s
  | .fenceWrite n limit data => Sys2Proof.Machine.execFenceWrite n limit data s
  | .eventFlagsWrite data => Sys2Proof.Machine.execEventFlagsWrite data s
  | .eventEnableWrite data => Sys2Proof.Machine.execEventEnableWrite data s
  | .commandBarrierEnd => Sys2Proof.Machine.execCommandBarrierEnd s
  | .bankOn upper => Sys2Proof.Machine.execBankOn upper s
  | .bankOff upper => Sys2Proof.Machine.execBankOff upper s
  | .fill upper => Sys2Proof.Machine.execFill upper s
  | .release upper => Sys2Proof.Machine.execRelease upper s
  | .query upper => Sys2Proof.Machine.execQuery upper s
  | .logPop upper => Sys2Proof.Machine.execLogPop upper s
  | .chStart n upper => Sys2Proof.Machine.execChStart n upper s
  | .chPause n upper => Sys2Proof.Machine.execChPause n upper s
  | .chResume n upper => Sys2Proof.Machine.execChResume n upper s
  | .chAbort n upper => Sys2Proof.Machine.execChAbort n upper s
  | .chReset n upper => Sys2Proof.Machine.execChReset n upper s
  | .softReset upper => Sys2Proof.Machine.execSoftReset upper s
  | .unknownCommand word => Sys2Proof.Machine.execUnknownCommand word s
  | .srqAssert n => Sys2Proof.Machine.execSrqAssert n s
  | .srqDeassert n => Sys2Proof.Machine.execSrqDeassert n s
  | .streamTake n sd slast => Sys2Proof.Machine.execStreamTake n sd slast s
  | .retReqRise => Sys2Proof.Machine.execRetReqRise s
  | .retReqFall => Sys2Proof.Machine.execRetReqFall s
  | .quiesceComplete => Sys2Proof.Machine.execQuiesceComplete s
  | .retentionSettled => Sys2Proof.Machine.execRetentionSettled s
  | .wakingComplete => Sys2Proof.Machine.execWakingComplete s

end Sys2Proof.Machine
end

