-- ==== Sys2Proof/Machine/Step.lean ====
section
/-! DEFINITION. Step.lean: one step: the command at the front of the queue, or, on an empty queue, one MCLK period. -/

namespace Sys2Proof.Machine

/-- One step: the command at the front of the queue is taken off it and carried out on the rest. An empty queue lets one MCLK period
pass (log entry 4). -/
def step (s : State) : Host.Outcome State Fault Refusal :=
  match s.pending with
  | [] => .next s.clock
  | i :: rest => exec i { s with pending := rest }

/-- The state with the command that the word spells put at the front of its queue, unchanged where it spells none. -/
def State.withFetchWord (s : State) (nbits w : Nat) : State :=
  match decodeTableWord nbits w with
  | some i => { s with pending := i :: s.pending }
  | none => s

end Sys2Proof.Machine
end

