-- ==== Sys2Proof/Safety.lean ====
section
/-! DEFINITION. Safety.lean: the terms in which claims speak: a state between happenings, what a step leaves unchanged, and the
properties that every step keeps. -/

namespace Sys2Proof.Machine

/-! ### Between happenings -/

/-- RESET is not asserted and nothing is due: the last happening is over with all it made due (log entry 2). -/
abbrev State.atRest (s : State) : Prop := s.resetAsserted = false ∧ s.quiet = true

/-- At rest, and no bus cycle in progress (R97). -/
abbrev State.busFree (s : State) : Prop := s.atRest ∧ s.host.cycle = .idle

/-- The bus is free and the host write queue is empty, so that a command is taken at once (R109). -/
abbrev State.commandReady (s : State) : Prop := s.busFree ∧ s.host.queue = []

/-! ### What is left unchanged -/

/-- The parts of the state, those of each bank and channel apart. -/
inductive Part where
  | pending | resetLine | array | groups | config | fitted | timing
  | bank (b : BankNo) | arb (b : BankNo) | account (b : BankNo)
  | tick | fill | scrub | override | host | command | arg | cmdStatus
  | chan (n : ChanNo) | stream | retention | log | events | ties
  deriving DecidableEq, Repr

/-- The part reads the same in both states. -/
def Part.same (p : Part) (s t : State) : Prop :=
  match p with
  | .pending => t.pending = s.pending
  | .resetLine => t.resetAsserted = s.resetAsserted
  | .array => t.array = s.array
  | .groups => t.groups = s.groups
  | .config => t.config = s.config
  | .fitted => t.fitted = s.fitted
  | .timing => t.timing = s.timing
  | .bank b => t.bank b = s.bank b
  | .arb b => t.arb b = s.arb b
  | .account b => t.account b = s.account b
  | .tick => t.tick = s.tick
  | .fill => t.fill = s.fill
  | .scrub => t.scrub = s.scrub
  | .override => t.override = s.override
  | .host => t.host = s.host
  | .command => t.command = s.command
  | .arg => t.arg = s.arg
  | .cmdStatus => t.cmdStatus = s.cmdStatus
  | .chan n => t.chan n = s.chan n
  | .stream => t.stream = s.stream
  | .retention => t.retention = s.retention
  | .log => t.log = s.log
  | .events => t.events = s.events
  | .ties => t.ties = s.ties

/-- Every part but those of `ps` reads the same in both states. -/
def unchangedBut (ps : List Part) (s t : State) : Prop := ∀ p : Part, p ∉ ps → p.same s t

/-- The arbiters of all four banks. -/
def allArbs : List Part := Four.indices.map Part.arb

/-- The four channels. -/
def allChans : List Part := Four.indices.map Part.chan

/-- The four banks. -/
def allBanks : List Part := Four.indices.map Part.bank

/-- The refresh accounts of all four banks. -/
def allAccounts : List Part := Four.indices.map Part.account

/-! ### Questions claims ask -/

/-- No beat decision is due at the stream port: a beat is in progress, or no channel is eligible (R156). -/
abbrev State.portQuiet (s : State) : Prop := s.stream.beat ≠ none ∨ ∀ n, s.eligible n = false

/-- No request is pending at the arbiter of bank `b`, that of REFRESH apart (R62). -/
abbrev State.noRequests (s : State) (b : BankNo) : Prop :=
  (s.arb b).host = none ∧ (∀ n, (s.arb b).ch.get n = none) ∧ (s.arb b).fill = none ∧ (s.arb b).scrub = none

/-- Every bank is READY. -/
abbrev State.allReady (s : State) : Prop := ∀ b, s.isReady b = true

/-- A memory-window cycle to word `w` passes the checks of R99. -/
abbrev State.served (s : State) (w : WordAddr) : Prop :=
  s.fitted.get (bankOf w) = true ∧ s.isReady (bankOf w) = true ∧ s.inService = true

/-- A bank as a column operation leaves it at its completion (R8, R12). -/
def afterColumn (hold : BitVec 6) (k : Bank) : Bank :=
  if hold = 0#6 ∨ k.offWaiting = true then { k with op := none, openRow := none, holdTimer := none }
  else { k with op := none, holdTimer := some { period := hold.toNat * 16, count := 0 } }

/-- An arbiter told that the open row of its bank `k`, if any, has closed (R11, R69). -/
def afterClose (k : Bank) (a : Arbiter) : Arbiter := if k.openRow.isSome then { a with streak := 0 } else a

/-- An arbiter as a column operation leaves it at its completion (R12, R69). -/
def afterColumnArb (hold : BitVec 6) (k : Bank) (a : Arbiter) : Arbiter :=
  if hold = 0#6 ∨ k.offWaiting = true then afterClose k a else a

/-- The log with a finding that became a record (R177). -/
def logged (l : ErrorLog) (f : Finding) : ErrorLog :=
  { l with records := l.records ++ [{ finding := f, seq := l.nextSeq, repeats := 0 }], nextSeq := l.nextSeq + 1#8 }

/-- A stored word with one of its 39 bits inverted: data bit `i` below 32, check bit `i - 32` from there (R79). -/
def flipBit (x : Stored) (i : Nat) : Stored :=
  if i < 32 then { x with data := x.data ^^^ (1#32 <<< i) } else { x with check := x.check ^^^ (1#7 <<< (i - 32)) }

/-- Channel `n` has no request pending, no beat in progress, and no operation in flight but at bank `b`. -/
abbrev State.soleWork (s : State) (n : ChanNo) (b : BankNo) : Prop :=
  (∀ c, (s.arb c).ch.get n = none) ∧ s.beatOf n = false ∧
    ∀ c, c ≠ b → (s.bank c).op.any (fun o => o.kind.channel == some n) = false

/-- No reason RETENTION is in the pause-reason set of any channel. -/
abbrev State.noneRetained (s : State) : Prop := ∀ n, (s.chan n).pauses.retention = false

/-- The arbiter of bank `c` with the request `r` of channel `n` placed at the bank of its first word (R62). -/
def withRequest (n : ChanNo) (r : Request) (c : BankNo) (a : Arbiter) : Arbiter :=
  if c = bankOf r.addr then { a with ch := a.ch.set n (some r) } else a

/-- The arbiter of bank `c` after the column operation of bank `b` has completed (R12, R69). -/
def State.columnDone (s : State) (b c : BankNo) : Arbiter :=
  if c = b then afterColumnArb s.config.hold (s.bank b) (s.arb b) else s.arb c

/-- A channel that a fault has halted (R146). -/
def haltedChan (c : Channel) (code : FaultCode) : Channel :=
  { c with state := .halted, pauses := noPauses, stop := .fault, fault := code, aborting := false, work := none,
           remaining := 0, ended := none, fifo := [] }

/-- A channel that has stopped at the end of its chain or by an abort (R129, R141). -/
def stoppedChan (c : Channel) (why : StopReason) : Channel :=
  { c with state := .idle, pauses := noPauses, stop := why, fault := .none, aborting := false, work := none,
           remaining := 0, ended := none, fifo := [] }

/-- An operation that is no longer channel `n`'s (R136, R143). -/
def disowned (n : ChanNo) (o : Op) : Op := if o.kind.channel = some n then { o with residual := true } else o

/-- The word that a command writes to COMMAND, for the rows that are writes to COMMAND (R108). -/
def commandWordOf (c : Instr) : Option Word :=
  match c with
  | .bankOn u => some (commandWord u 0x01#8)
  | .bankOff u => some (commandWord u 0x02#8)
  | .fill u => some (commandWord u 0x03#8)
  | .release u => some (commandWord u 0x04#8)
  | .query u => some (commandWord u 0x05#8)
  | .logPop u => some (commandWord u 0x06#8)
  | .chStart n u => some (channelCommandWord u n 0x10#8)
  | .chPause n u => some (channelCommandWord u n 0x11#8)
  | .chResume n u => some (channelCommandWord u n 0x12#8)
  | .chAbort n u => some (channelCommandWord u n 0x13#8)
  | .chReset n u => some (channelCommandWord u n 0x14#8)
  | .softReset u => some (commandWord u 0x1F#8)
  | .unknownCommand w => some w
  | _ => none

/-! ### Pauses, and channels that go on (R134, R135) -/

/-- Channel `n` is ACTIVE with an empty pause-reason set and no abort in hand: a reason that comes now is its first (R134). -/
abbrev State.takesFirstReason (s : State) (n : ChanNo) : Prop :=
  (s.chan n).state = .active ∧ (s.chan n).pauses = noPauses ∧ (s.chan n).aborting = false

/-- The first reason takes channel `n` to PAUSED at once: a descriptor is installed that has not ended, no data operation of the channel is in
flight, and no beat of it is in progress (R134; that a descriptor has not ended is log entry 14). -/
abbrev State.pausesAtOnce (s : State) (n : ChanNo) : Prop :=
  s.takesFirstReason n ∧ (s.chan n).work ≠ none ∧ (s.chan n).ended = none ∧
    s.chanOp n (fun o => o.kind.isData) = false ∧ s.beatOf n = false

/-- The request of channel `n` at bank `b` that the first reason leaves: a data request is withdrawn, a fetch or a write-back stays (R134). -/
def State.requestLeft (s : State) (n : ChanNo) (b : BankNo) : Option Request :=
  if s.takesFirstReason n then ((s.arb b).ch.get n).filter (fun q => !q.kind.isData) else (s.arb b).ch.get n

/-- Channel `n` has a request pending at one bank at most (R121). -/
abbrev State.oneRequest (s : State) (n : ChanNo) : Prop :=
  ∀ b c, (s.arb b).ch.get n ≠ none → (s.arb c).ch.get n ≠ none → b = c

/-- The request that a channel `c`, number `n`, with nothing outstanding, makes for the descriptor `w` (R123, R124, R125, R126). -/
def requestAtRest (n : ChanNo) (c : Channel) (w : Work) : Option Request :=
  let held := c.fifo.length
  let write (most : Nat) : Request := { kind := .dataWrite n, addr := w.dst, words := min 8 (min most (wordsLeftInRow w.dst)) }
  let read (most : Nat) : Request := { kind := .dataRead n, addr := w.src, words := min 8 (min most (wordsLeftInRow w.src)) }
  match w.op with
  | .copy => if 1 ≤ held then some (write held) else if 1 ≤ w.unread then some (read w.unread) else none
  | .pattern => if 1 ≤ c.remaining then some (write c.remaining) else none
  | .streamIn =>
    if 1 ≤ held ∧ (8 ≤ held ∨ held = c.remaining ∨ ∃ x ∈ c.fifo, x.last = true) then some (write held) else none
  | .streamOut =>
    let u := c.remaining - held
    if 1 ≤ u ∧ min 8 u ≤ 16 - held then some (read u) else none

/-- Channel `n` is PAUSED with nothing left over and no abort in hand, the banks of what it will ask for are READY, and no beat will begin. -/
abbrev State.mayGoOn (s : State) (n : ChanNo) : Prop :=
  (s.chan n).state = .paused ∧ (s.chan n).aborting = false ∧ (s.chan n).residual = false ∧ (s.chan n).ended = none ∧
    (∀ c, (s.arb c).ch.get n = none) ∧ s.chanOp n (fun _ => true) = false ∧ s.portQuiet ∧
    ((s.chan n).work = none → s.isReady (bankOf (descWord (s.chan n).desc)) = true) ∧
    ∀ w ∈ (s.chan n).work,
      (requestAtRest n (s.chan n) w).all (fun q => s.isReady (bankOf q.addr)) = true ∧
        (s.stream.beat ≠ none ∨ s.stream.srq.get n = false ∨ w.op = .copy ∨ w.op = .pattern)

/-- The last reason of the PAUSED channel `n` has gone (R135): with no descriptor installed it is LOADING and fetches CH_DESC afresh; with one it is
ACTIVE, its FIFO, REMAINING and cursors kept, and asks for its next data request, if it has one to make. -/
def wentOn (s t : State) (n : ChanNo) : Prop :=
  match (s.chan n).work with
  | none =>
    t.chan n = { s.chan n with state := .loading, pauses := noPauses } ∧
      ∀ b, t.arb b = withRequest n { kind := .fetch n, addr := descWord (s.chan n).desc, words := 4 } b (s.arb b)
  | some w =>
    t.chan n = { s.chan n with state := .active, pauses := noPauses } ∧
      ∀ b, t.arb b =
        match requestAtRest n (s.chan n) w with
        | some q => withRequest n q b (s.arb b)
        | none => s.arb b

/-- Channel `n`, PAUSED, holds RETENTION, and every other channel that holds it has a further reason. -/
abbrev State.mayBeLifted (s : State) (n : ChanNo) : Prop :=
  s.mayGoOn n ∧ (s.chan n).pauses.retention = true ∧
    ∀ m, m ≠ n → (s.chan m).pauses.retention = true → (s.chan m).pauses.host = true ∨ (s.chan m).pauses.unowned = true

/-- RETENTION has been removed from every channel that held it (R166): a channel with HOST or UNOWNED keeps those and its state, and channel `n`, if
RETENTION was its only reason, has gone on. -/
def retentionLifted (s t : State) (n : ChanNo) : Prop :=
  let lifted (m : ChanNo) : Channel := { s.chan m with pauses := { (s.chan m).pauses with retention := false } }
  (∀ m, m ≠ n → t.chan m = lifted m) ∧
    if (s.chan n).pauses.host = true ∨ (s.chan n).pauses.unowned = true then
      t.chan n = lifted n ∧ ∀ b, t.arb b = s.arb b
    else wentOn s t n

/-! ### The outcomes of bus cycles and commands -/

/-- The host port after a cycle that ended with `e` (R97). -/
def endedPort (p : HostPort) (e : BusEnd) : HostPort := { p with cycle := .idle, busEnd := some e }

/-- CMD_STATUS of a taken command other than QUERY (R110). -/
def takenStatus (code : BitVec 8) : CmdStatus := { resetCmdStatus with outcome := .taken, code := code }

/-- CMD_STATUS of a refused command (R110). -/
def refusedStatus (r : Reason) (code : BitVec 8) : CmdStatus :=
  { resetCmdStatus with outcome := .refused, reason := r, code := code }

/-- The flags with that of `e` set (R182). -/
def withEvent (u : EventUnit) (e : Event) : EventUnit := { u with sticky := u.sticky ||| (1#17 <<< eventBit e) }

/-- `t` is what a taken command leaves of the bus: COMMAND, CMD_STATUS and the end of the cycle (R108, R110). -/
def commandTaken (s t : State) (w : Word) : Prop :=
  t.command = w ∧ t.cmdStatus = takenStatus (commandCode w) ∧ t.host = endedPort s.host (.ready none)

/-- `t` is what a refused command leaves: COMMAND, CMD_STATUS, the end of the cycle, the REFUSED flag, and nothing else (R110). -/
def commandRefused (s t : State) (w : Word) (r : Reason) : Prop :=
  t.command = w ∧ t.cmdStatus = refusedStatus r (commandCode w) ∧ t.host = endedPort s.host (.ready none) ∧
    t.events = withEvent s.events .refused ∧ unchangedBut [.command, .cmdStatus, .host, .events] s t

/-! ### Grants, and requests that are turned away -/

/-- A grant decision can be made at bank `b`, and the grant order makes it (R64, R66): RESET is not asserted, the bank is READY and free, no
switch-off and no retention order waits, no host read is about to be placed there, and no requests have reached the bank together. -/
abbrev State.decides (s : State) (b : BankNo) : Prop :=
  s.resetAsserted = false ∧ s.isFree b = true ∧ (s.bank b).offWaiting = false ∧ (s.bank b).order = none ∧
    s.readWaitsAt b = false ∧ (s.arb b).met = false

/-- `q` is pending at bank `b` for `r`, and no request of another requester is, that of REFRESH apart (R62). -/
abbrev State.solePending (s : State) (b : BankNo) (r : Requester) (q : Request) : Prop :=
  s.pendingAt b r = some q ∧ ∀ r' ∈ otherRequesters, r' ≠ r → s.pendingAt b r' = none

/-- An arbiter from which the request of `r` has been taken (R71). -/
def withoutRequest (r : Requester) (a : Arbiter) : Arbiter :=
  match r with
  | .refresh => a
  | .host => { a with host := none }
  | .ch n => { a with ch := a.ch.set n none }
  | .fill => { a with fill := none }
  | .scrub => { a with scrub := none }

/-- The streak count of bank `b` after a grant of `q`: one more, to 16, for a page hit, and 0 for any other (R69). -/
def State.streakAfter (s : State) (b : BankNo) (q : Request) : Nat :=
  if (s.bank b).openRow = some (rowOf q.addr) then min 16 ((s.arb b).streak + 1) else 0

/-- The arbiter of bank `b` after the grant of `q`, the only NORMAL request there, to `r` at position `p`: a page hit moves the hit position, any
other request the rotation position (R67, R68, R69). -/
def State.afterNormal (s : State) (b : BankNo) (r : Requester) (p : Fin 6) (q : Request) : Arbiter :=
  { withoutRequest r (s.arb b) with
    streak := s.streakAfter b q
    hitPos := if (s.bank b).openRow = some (rowOf q.addr) then p else (s.arb b).hitPos
    rotPos := if (s.bank b).openRow = some (rowOf q.addr) then (s.arb b).rotPos else p }

/-- Bank `b` has begun the column operation of `q` with the words `payload` to store: its row is open, its page-hold timer stopped, and CONFIG.CWB
and the timing record are those of now (R9, R11, R14, R22, R84). -/
def begun (s t : State) (b : BankNo) (q : Request) (payload : List Stored) : Prop :=
  ∃ o, t.bank b = { s.bank b with openRow := some (rowOf q.addr), holdTimer := none, op := some o } ∧ o.kind = q.kind ∧
    o.addr = q.addr ∧ o.words = q.words ∧ o.payload = payload ∧ o.cwb = s.config.cwb ∧ o.timing = s.timing ∧
    o.residual = false ∧ o.elapsed = 0

/-- The conditions under which the requester `r` of the request `q` at bank `b`, turned away, has nothing more to ask for: a host read with no
queue entry to place again, a queue head with none behind it, a channel with no other request, operation or beat, the scrubber with no credit; and
the log has room. -/
def State.mayBeTurnedAway (s : State) (b : BankNo) (r : Requester) (q : Request) : Prop :=
  s.log.records.length < 8 ∧
    match r with
    | .host => (q.kind = .hostRead ∧ s.host.queue = []) ∨ ∃ e, s.host.queue = [e] ∧ q = headRequest e
    | .ch n => q.kind.channel = some n ∧ s.chanOp n (fun _ => true) = false ∧ s.beatOf n = false ∧
        ∀ c, c ≠ b → (s.arb c).ch.get n = none
    | .scrub => s.scrub.credits = 0
    | .refresh | .fill => False

/-- `t` shows what a lapsed grant or a NOT_READY answer, of fault code `code`, leaves of the request `q` of `r` (R72, R74), and only the parts
`ps` differ beside it. A host read ends with HERR. A queue head leaves with a WRITE_FAILED record. A channel halts, with `code` or, for its
write-back, with WRITEBACK, and with the address of a data burst. The scrubber passes on to the next row, counting a pass at the wrap, and goes to
IDLE (R93). -/
def turnedAway (s t : State) (r : Requester) (q : Request) (code : FaultCode) (ps : List Part) : Prop :=
  match r with
  | .host =>
    if q.kind = .hostRead then t.host = endedPort s.host .error ∧ unchangedBut (.host :: ps) s t
    else t.host = { s.host with queue := [] } ∧
      t.log = logged s.log { kind := .writeFailed, source := .host, addr := some q.addr, group := none, syndrome := none,
                             desc := none, fault := code } ∧
      unchangedBut ([.host, .log] ++ ps) s t
  | .ch n =>
    let fault : FaultCode := if q.kind = .writeback n then .writeback else code
    t.chan n = haltedChan (s.chan n) fault ∧
      t.log = logged s.log { kind := .channelFault, source := .ch n, addr := if q.kind.isData then some q.addr else none,
                             group := none, syndrome := none, desc := some (s.chan n).desc, fault := fault } ∧
      t.events = withEvent s.events (.stop n) ∧ unchangedBut ([.chan n, .log, .events] ++ ps) s t
  | .scrub =>
    (s.scrub.row ≠ 2047#11 → t.scrub = { s.scrub with row := s.scrub.row + 1#11, segment := 0#5, state := .idle }) ∧
      (s.scrub.row = 2047#11 → s.scrub.bank ≠ 3 →
        t.scrub = { s.scrub with bank := s.scrub.bank + 1, row := 0#11, segment := 0#5, state := .idle }) ∧
      (s.scrub.row = 2047#11 → s.scrub.bank = 3 →
        t.scrub = { s.scrub with bank := 0, row := 0#11, segment := 0#5, pass := s.scrub.pass + 1#16, state := .idle }) ∧
      unchangedBut (.scrub :: ps) s t
  | .refresh | .fill => False

/-- WAKING has begun with RET_REQ low (R20, R172): each RETAINED bank begins its EXIT of T_SRX periods and is counted in UNSETTLED, each DORMANT
bank goes to INIT with settle count, balance and cursor 0, and no other bank and no other part changes. -/
def banksWoken (s t : State) : Prop :=
  t.retention.state = .waking ∧ t.retention.req = false ∧
    t.retention.unsettled = (Four.indices.filter fun b => (s.bank b).state == .retained).length ∧
    (∀ b, (s.bank b).state = .retained →
      ∃ o, o.kind = .selfRefreshExit ∧ o.periods = s.timing.tSrx ∧ o.elapsed = 0 ∧
        t.bank b = { s.bank b with state := .exiting, openRow := none, holdTimer := none, op := some o } ∧
        t.arb b = afterClose (s.bank b) (s.arb b) ∧ t.account b = s.account b) ∧
    (∀ b, (s.bank b).state = .dormant →
      t.bank b = { s.bank b with state := .init, settle := 0, op := none } ∧ t.arb b = s.arb b ∧
      t.account b = { balance := 0, cursor := 0#8 }) ∧
    (∀ b, (s.bank b).state ≠ .retained → (s.bank b).state ≠ .dormant →
      t.bank b = s.bank b ∧ t.arb b = s.arb b ∧ t.account b = s.account b) ∧
    unchangedBut ([.retention] ++ allBanks ++ allArbs ++ allAccounts) s t

/-! ### What every step keeps -/

/-- The requests pending at an arbiter are of the kinds their requesters make (R62, R63). -/
def Arbiter.kindsOk (a : Arbiter) : Prop :=
  (∀ r, a.host = some r → r.kind = .hostRead ∨ r.kind = .hostWrite ∨ r.kind = .hostMerge) ∧
  (∀ n r, a.ch.get n = some r → r.kind.channel = some n) ∧
  (∀ r, a.fill = some r → r.kind = .fillSegment) ∧
  (∀ r, a.scrub = some r → r.kind = .scrubSegment)

/-- Bank `b` is as the rules say a bank is at all times: its balance lies between −4 and +8, and above −4 while its REFRESH is in flight (R45,
R54); it has an open row only when READY, and none under an operation that closed it (R11); its pending requests are of the right kinds; its
settle count is at most 8 and its streak count at most 16 (R5, R69). -/
structure State.BankOk (s : State) (b : BankNo) : Prop where
  low : -4 ≤ (s.account b).balance
  high : (s.account b).balance ≤ 8
  refreshing : s.refreshing b = true → -3 ≤ (s.account b).balance
  openRow : (s.bank b).openRow ≠ none → (s.bank b).state = .ready
  closed : ∀ o, (s.bank b).op = some o → o.kind.isColumn = false → (s.bank b).openRow = none
  kinds : (s.arb b).kindsOk
  settle : (s.bank b).settle ≤ 8
  streak : (s.arb b).streak ≤ 16

/-- The four banks are as the rules say. -/
def State.BanksOk (s : State) : Prop := ∀ b, s.BankOk b

/-- The error log holds at most 8 records, its overflow count is at most 255, and a repeat count at most 15 (R176). -/
structure State.LogOk (s : State) : Prop where
  records : s.log.records.length ≤ 8
  overflow : s.log.overflow ≤ 255
  repeats : ∀ r ∈ s.log.records, r.repeats ≤ 15

/-- An IDLE or HALTED channel has an empty pause-reason set and no abort in hand, and FAULT is NONE unless STOP is FAULT (R133, R146). -/
structure State.ChannelOk (s : State) (n : ChanNo) : Prop where
  pauses : (s.chan n).state = .idle ∨ (s.chan n).state = .halted → (s.chan n).pauses = noPauses
  aborting : (s.chan n).state = .idle ∨ (s.chan n).state = .halted → (s.chan n).aborting = false
  fault : (s.chan n).fault ≠ .none → (s.chan n).stop = .fault

/-- The four channels are as the rules say. -/
def State.ChannelsOk (s : State) : Prop := ∀ n, s.ChannelOk n

/-- The fields of CONFIG and CONFIG2 are in their ranges (R22, R91), the queues no longer than they may be (R29, R103), and the counts within
their bounds (R26, R91, R163). -/
structure State.RangesOk (s : State) : Prop where
  scrubRate : s.config.scrubRate ≤ 8
  tOpen : 2 ≤ s.timing.tOpen ∧ s.timing.tOpen ≤ 15
  tCol : 1 ≤ s.timing.tCol ∧ s.timing.tCol ≤ 4
  tClose : 2 ≤ s.timing.tClose ∧ s.timing.tClose ≤ 15
  tRef : 4 ≤ s.timing.tRef ∧ s.timing.tRef ≤ 63
  tSrx : 16 ≤ s.timing.tSrx ∧ s.timing.tSrx ≤ 1023
  hostQueue : s.host.queue.length ≤ 4
  fillQueue : s.fill.queue.length ≤ 8
  credits : s.scrub.credits ≤ 16
  unsettled : s.retention.unsettled ≤ 4
  weak : ∀ e ∈ s.groups, e.2.weak ≤ 15

end Sys2Proof.Machine
end

