-- ==== Sys2Proof/WellFormed.lean ====
section
/-! DEFINITION. WellFormed.lean: which commands are rows of the table as the table means them. The operand types leave
little to check: REGISTER_WRITE is the row of a register without behaviour of its own (R107), and UNKNOWN_COMMAND
that of a code that names no command (R186). -/

namespace Sys2Proof

/-- The command codes of section 12.2. -/
def commandCodes : List (BitVec 8) :=
  [0x01#8, 0x02#8, 0x03#8, 0x04#8, 0x05#8, 0x06#8, 0x10#8, 0x11#8, 0x12#8, 0x13#8, 0x14#8, 0x1F#8]

/-- The register numbers (offset / 4, section 12.1) whose writes have rows of their own: CONFIG, CONFIG2, COMMAND,
EVENT_FLAGS, EVENT_ENABLE, CHECK_OVERRIDE and the eight fence registers. -/
def ownRowRegisters : List (BitVec 6) :=
  [0x01#6, 0x02#6, 0x03#6, 0x06#6, 0x07#6, 0x0B#6,
   0x24#6, 0x25#6, 0x2C#6, 0x2D#6, 0x34#6, 0x35#6, 0x3C#6, 0x3D#6]

/-- The command is a row of the table. -/
def Instr.wellFormed (i : Instr) : Bool :=
  match i with
  | .registerWrite reg _ => !(ownRowRegisters.contains reg)
  | .unknownCommand word => !(commandCodes.contains (word.setWidth 8))
  | _ => true

end Sys2Proof
end

