-- ==== Sys2Proof/Certificates/Slice0/Obligations.lean ====
section
/-! DEFINITION. Obligations.lean: the statements for the provers. Each docstring names the rules of spec/ it formalises. A statement about a
command speaks of a state at rest (Machine/Safety: nothing due, RESET not asserted) and gives the next state: the parts that change, and
that no other part does (`unchangedBut`). -/

open Sys2Proof Sys2Proof.Machine

/-! ### The machine -/

/-- Log entry 1: a step takes the command at the front of the queue and carries it out on the rest. -/
def Obligations.StepRunsFrontCommand : Prop :=
  ∀ (c : Instr) (rest : List Instr) (s : State),
    s.pending = c :: rest → step s = exec c { s with pending := rest }

/-- The reset state has every property that the later statements say is kept. -/
def Obligations.ResetIsLawful : Prop :=
  State.reset.tablesWf ∧ State.reset.BanksOk ∧ State.reset.LogOk ∧ State.reset.ChannelsOk ∧ State.reset.RangesOk

/-- 12.1: what every register of the map reads as after reset (with RET_REQ and the SRQ lines low, log entry 6). -/
def Obligations.ResetRegisterValues : Prop :=
  ∀ reg : BitVec 6, State.reset.registerRead reg =
    match reg.toNat with
    | 0x00 => 0x51582601#32
    | 0x01 => 0x00048818#32
    | 0x02 => 0x320A313F#32
    | 0x0E => 0x00000030#32
    | 0x14 | 0x15 | 0x16 | 0x17 => 0x00550000#32
    | 0x25 | 0x2D | 0x35 | 0x3D => 0x00FFFFFC#32
    | _ => 0#32

/-- R45, R11, R62, R5, R69: every step keeps what is said of banks (State.BankOk): the balance between −4 and +8, an open row only on a READY
bank, pending requests of the right kinds. -/
def Obligations.EveryStepKeepsBanks : Prop :=
  ∀ s t : State, s.BanksOk → step s = .next t → t.BanksOk

/-- R176, R178, R179: every step keeps the log at 8 records or fewer, the overflow count at 255 or below, and repeat counts at 15 or below. -/
def Obligations.EveryStepKeepsLog : Prop :=
  ∀ s t : State, s.LogOk → step s = .next t → t.LogOk

/-- R133, R146: every step keeps an IDLE or HALTED channel free of pause reasons and of an abort, and FAULT at NONE unless STOP is FAULT. -/
def Obligations.EveryStepKeepsChannels : Prop :=
  ∀ s t : State, s.ChannelsOk → step s = .next t → t.ChannelsOk

/-- R22, R26, R29, R91, R103, R163: every step keeps the configuration fields in their ranges, the queues within their depths and the counts
within their bounds. -/
def Obligations.EveryStepKeepsRanges : Prop :=
  ∀ s t : State, s.RangesOk → step s = .next t → t.RangesOk

/-- The model's form of the array and of the Row Group Table (R23, R79): every step keeps both tables canonical. -/
def Obligations.EveryStepKeepsTables : Prop :=
  ∀ s t : State, s.tablesWf → step s = .next t → t.tablesWf

/-- R33: a group enters KEEP only at the completion of a fill segment, whatever the command. -/
def Obligations.KeepOnlyByFill : Prop :=
  ∀ (c : Instr) (s t : State) (g : Nat), s.tablesWf → exec c s = .next t →
    (s.group g).state ≠ .keep → (t.group g).state = .keep → ∃ b, c = .fillSegmentComplete b

/-! ### Reset and the timers -/

/-- R21, R41, R61, R78, R96, R113, R151, R162, R174, R181, R184: what PIN_RESET leaves. Three points are the model's choices, not the rules': the
array is as it was found (log entry 11), also where a WRITE was in flight (log entry 12); and the levels of RET_REQ and the SRQ lines are not the
part's to change (log entry 6). -/
def Obligations.PinResetRestoresEveryBlock : Prop :=
  ∀ s : State, ∃ t, exec .pinReset s = .next t ∧
    (∀ b, t.bank b = { state := .off, settle := 0, openRow := none, holdTimer := none, op := none, offWaiting := false,
                       order := none } ∧
      t.noRequests b ∧ (t.arb b).streak = 0 ∧ (t.arb b).rotPos = 5 ∧ (t.arb b).hitPos = 5 ∧
      t.account b = { balance := 0, cursor := 0#8 } ∧ t.fitted.get b = true) ∧
    (∀ g, t.group g = { state := .discard, weak := 0 }) ∧
    t.fill = { queue := [], ending := false, segment := 0, restart := false, held := false } ∧
    t.readConfig = 0x00048818#32 ∧ t.readConfig2 = 0x320A313F#32 ∧
    t.scrub = { bank := 0, row := 0#11, segment := 0#5, credits := 0, pass := 0#16, state := .idle } ∧
    t.override = { armed := false, check := 0#7 } ∧
    t.host.queue = [] ∧ t.host.cycle = .idle ∧ t.command = 0#32 ∧ t.arg = 0#32 ∧ t.readCmdStatus = 0#32 ∧
    (∀ n, t.chan n = resetChannel) ∧
    t.stream.beat = none ∧ t.stream.rot = 3 ∧ t.stream.srq = s.stream.srq ∧
    t.retention = { state := .normal, unsettled := 0, req := s.retention.req } ∧
    t.log = { records := [], nextSeq := 0#8, overflow := 0 } ∧ t.events = { sticky := 0#17, enable := 0#17 } ∧
    t.resetAsserted = true ∧ t.tick.running = false ∧ t.array = s.array ∧ t.pending = s.pending

/-- R42, R174: RESET_RELEASE starts the tick timer from zero; with RET_REQ high it goes to QUIESCING at once, with the fill engine and the
scrubber held, and with RET_REQ low it changes nothing else. -/
def Obligations.ResetReleaseStartsTheClock : Prop :=
  ∀ s : State, s.resetAsserted = true →
    (s.retention.req = false →
      exec .resetRelease s = .next { s with resetAsserted := false, tick := { running := true, count := 0 } }) ∧
    (s.retention.req = true → (∀ n, (s.chan n).state = .idle) →
      ∃ t, exec .resetRelease s = .next t ∧ t.resetAsserted = false ∧ t.tick = { running := true, count := 0 } ∧
        t.retention = { s.retention with state := .quiescing } ∧ t.fill = { s.fill with held := true } ∧
        t.scrub = { s.scrub with state := .held } ∧
        (∀ b, t.arb b = { s.arb b with fill := none, scrub := none }) ∧
        unchangedBut ([.resetLine, .tick, .retention, .fill, .scrub] ++ allArbs) s t)

/-- R44, R47, R5, R56, R91: a REFRESH_TICK that meets no overrun. A READY bank earns one obligation, and its cursor moves on when it rested at −4
on a group that needs no refresh; a bank in INIT counts its settle wait; any other bank is left as it is; the scrubber gains its credits. (`met`
is the model's mark that REFRESH and SCRUB requests of this tick have reached a free bank together, log entry 13.) -/
def Obligations.TickEarnsObligations : Prop :=
  ∀ s : State, s.atRest → (∀ b, s.isReady b = true → (s.account b).balance < 8) →
    ∃ t, exec .refreshTick s = .next t ∧ t.tick = { s.tick with count := 0 } ∧
      (∀ b, s.isReady b = true → (s.refreshing b = true ∨ s.needsRefresh (s.cursorGroup b) = true) →
        t.account b = { balance := (s.account b).balance + 1, cursor := (s.account b).cursor }) ∧
      (∀ b, s.isReady b = true → s.refreshing b = false → s.needsRefresh (s.cursorGroup b) = false →
        (s.account b).balance = -4 → t.account b = { balance := -4, cursor := (s.account b).cursor + 1#8 }) ∧
      (∀ b, s.isReady b = false → t.account b = s.account b) ∧
      (∀ b, (s.bank b).state = .init → (s.bank b).op = none → (s.bank b).settle < 8 →
        t.bank b = { s.bank b with settle := (s.bank b).settle + 1 }) ∧
      (∀ b, (s.bank b).state ≠ .init ∨ (s.bank b).op ≠ none → t.bank b = s.bank b) ∧
      t.scrub.credits = min 16 (s.scrub.credits + s.config.scrubRate) ∧
      (∀ b, { t.arb b with scrub := none, met := false } = { s.arb b with scrub := none, met := false }) ∧
      unchangedBut ([.tick, .scrub] ++ allBanks ++ allArbs ++ allAccounts) s t

/-- R48, R49, R50, R34: a REFRESH_TICK at a READY bank with a balance of +8, the other banks not READY. Without a REFRESH in flight the group at
the cursor is sacrificed and the cursor moves on to the next, which needs refresh; with one in flight the group being refreshed is, and the cursor
is held. A KEEP group lapses, its weak count kept. A FILLING group stays FILLING and its fill restarts from segment 0: a pending segment request
is replaced by one for segment 0, and a segment in flight is marked; an ending entry's fill goes on as it was. Either way a LAPSE record is made
and LAPSE is raised. -/
def Obligations.OverrunLapsesAGroup : Prop :=
  ∀ (s : State) (b : BankNo) (g : Nat), s.atRest → s.tablesWf → s.isReady b = true → (∀ c, c ≠ b → s.isReady c = false) →
    (s.account b).balance = 8 → s.log.records.length < 8 →
    ((s.refreshing b = false ∧ g = s.cursorGroup b ∧
        s.needsRefresh (globalGroup b ((s.account b).cursor + 1#8)) = true) ∨
      (∃ o, (s.bank b).op = some o ∧ o.kind = .refresh ∧ g = groupOf o.addr)) →
    let overrun (t : State) : Prop :=
      t.account b = { balance := 8, cursor := (s.account b).cursor + (if s.refreshing b then 0#8 else 1#8) } ∧
        t.log = logged s.log { kind := .lapse, source := .refresh, addr := none, group := some (BitVec.ofNat 10 g),
                               syndrome := none, desc := none, fault := .none } ∧
        t.events = withEvent s.events .lapse
    ((s.group g).state = .keep →
      ∃ t, exec .refreshTick s = .next t ∧ overrun t ∧ t.group g = { s.group g with state := .lapsed } ∧
        (∀ g', g' ≠ g → t.group g' = s.group g') ∧
        (∀ c, { t.arb c with scrub := none, met := false } = { s.arb c with scrub := none, met := false }) ∧
        unchangedBut ([.tick, .scrub, .groups, .log, .events, .account b] ++ allBanks ++ allArbs) s t) ∧
    (s.fillingGroup = some g → bankOfGroup g = b → (∀ c, c ≠ b → (s.arb c).fill = none) →
      ∃ t, exec .refreshTick s = .next t ∧ overrun t ∧
        t.fill = (if s.fill.ending then s.fill
          else { s.fill with segment := 0, restart := s.fill.restart || s.fillInFlight }) ∧
        (t.arb b).fill = (s.arb b).fill.map (fun q =>
          if s.fill.ending then q else { kind := .fillSegment, addr := groupBase g, words := 64 }) ∧
        (∀ c, { t.arb c with fill := none, scrub := none, met := false } =
          { s.arb c with fill := none, scrub := none, met := false }) ∧
        (∀ c, c ≠ b → (t.arb c).fill = none) ∧
        unchangedBut ([.tick, .scrub, .fill, .log, .events, .account b] ++ allBanks ++ allArbs) s t)

/-- R13, R11, R69: a PAGE_HOLD_EXPIRY at a free bank begins a CLOSE of T_CLOSE periods: no row is open, the timer is stopped, and the streak count
is 0 if a row was open. (That the model's mark of requests together at a free bank goes out is log entry 13.) -/
def Obligations.PageHoldExpiryCloses : Prop :=
  ∀ (s : State) (b : BankNo) (h : HoldTimer), s.atRest → s.isFree b = true → (s.bank b).holdTimer = some h →
    ∃ t o, exec (.pageHoldExpiry b) s = .next t ∧ o.kind = .close ∧ o.elapsed = 0 ∧ o.periods = s.timing.tClose ∧
      t.bank b = { s.bank b with openRow := none, holdTimer := none, op := some o } ∧
      t.arb b = { afterClose (s.bank b) (s.arb b) with met := false } ∧ unchangedBut [.bank b, .arb b] s t

/-! ### Grants (chapter 4) -/

/-- R66, R69, R70, R71, R72, R74, R80, R89, R93, R145: BANK_GRANT where a decision can be made. A balance of +7 or more grants a REFRESH of the
group at the cursor ahead of all others. Else a HOST request for a KEEP group goes first; a WRITE carries the word of the queue's head with
computed check bits, or with the bits that its override mark carries. With no other request pending, REFRESH is granted at NORMAL, as the rotation
decision it is, at BACKGROUND, and at OPPORTUNISTIC with no row open; with one open nothing happens. A SCRUB request for a KEEP group, alone,
begins its segment and spends a credit. A request alone whose group is not KEEP lapses, leaving streak count and positions as they were, and its
requester treats it as turned away. -/
def Obligations.GrantRanksRefreshThenHost : Prop :=
  ∀ (s : State) (b : BankNo), s.decides b →
    let refreshBegun (t : State) : Prop :=
      ∃ o, o.kind = .refresh ∧ o.addr = groupBase (s.cursorGroup b) ∧ o.timing = s.timing ∧ o.elapsed = 0 ∧
        t.bank b = { s.bank b with openRow := none, holdTimer := none, op := some o }
    (7 ≤ (s.account b).balance →
      ∃ t, exec (.bankGrant b) s = .next t ∧ refreshBegun t ∧ t.arb b = { s.arb b with streak := 0 } ∧
        unchangedBut [.bank b, .arb b] s t) ∧
    (∀ q, (s.account b).balance ≤ 6 → (s.arb b).host = some q → (s.group (groupOf q.addr)).state = .keep →
      (q.kind ≠ .hostRead ∨ s.host.queue = []) →
      ∃ t x, exec (.bankGrant b) s = .next t ∧ begun s t b q x ∧
        (q.kind = .hostRead ∨ q.kind = .hostMerge → x = []) ∧
        (∀ e rest, q.kind = .hostWrite → s.host.queue = e :: rest →
          x = [{ data := e.data, check := e.mark.getD (checkBitsOf e.data) }]) ∧
        t.arb b = { s.arb b with host := none, streak := s.streakAfter b q } ∧ unchangedBut [.bank b, .arb b] s t) ∧
    (s.noRequests b → -3 ≤ (s.account b).balance → (s.account b).balance ≤ 6 →
      ((1 ≤ (s.account b).balance ∨ (s.bank b).openRow = none) →
        ∃ t, exec (.bankGrant b) s = .next t ∧ refreshBegun t ∧
          t.arb b = { s.arb b with
            streak := 0, rotPos := if 5 ≤ (s.account b).balance then 5 else (s.arb b).rotPos } ∧
          unchangedBut [.bank b, .arb b] s t) ∧
      ((s.account b).balance ≤ 0 → (s.bank b).openRow ≠ none → exec (.bankGrant b) s = .next s)) ∧
    (∀ q, (s.account b).balance ≤ 4 → s.solePending b .scrub q → (s.group (groupOf q.addr)).state = .keep →
      ∃ t, exec (.bankGrant b) s = .next t ∧ (q.kind = .scrubSegment → begun s t b q []) ∧
        t.scrub = { s.scrub with credits := s.scrub.credits - 1, state := .active } ∧
        t.arb b = { s.arb b with scrub := none, streak := s.streakAfter b q } ∧ unchangedBut [.bank b, .arb b, .scrub] s t) ∧
    (∀ r q, (s.account b).balance ≤ -4 → s.solePending b r q → s.mayBeTurnedAway b r q →
      (s.group (groupOf q.addr)).state ≠ .keep →
      ∃ t, exec (.bankGrant b) s = .next t ∧ t.arb b = withoutRequest r (s.arb b) ∧
        turnedAway s t r q .groupState [.arb b])

/-- R65, R67, R68, R69: the descriptor fetches of channels `n` and `m` pending at a bank, that of `n` a page hit and that of `m` none, the
rotation standing at `n`. Below a streak of 16 the page hit is granted: the streak count rises and the hit position names `n`. At 16 the
preference is lapsed and `m` is granted: the streak count becomes 0 and the rotation position names `m`; the hit position stays. Where the two
requests reached the free bank together (the model's mark `met`, log entry 13), either may have been taken first, and the one granted is granted
as one that stands alone. -/
def Obligations.StreakCapYieldsTheBank : Prop :=
  ∀ (s : State) (b : BankNo) (n m : ChanNo) (q r : Request), s.resetAsserted = false → s.isFree b = true →
    (s.bank b).offWaiting = false → (s.bank b).order = none → s.readWaitsAt b = false → (s.account b).balance ≤ 4 →
    (s.arb b).host = none → (s.arb b).fill = none → (∀ k, k ≠ n → k ≠ m → (s.arb b).ch.get k = none) → n ≠ m →
    (s.arb b).ch.get n = some q → (s.arb b).ch.get m = some r → (s.bank b).openRow = some (rowOf q.addr) →
    (s.bank b).openRow ≠ some (rowOf r.addr) → (s.arb b).streak ≤ 16 → (s.arb b).rotPos.val = n.val →
    r.kind = .fetch m → (s.chan m).state = .loading → (s.group (groupOf r.addr)).state = .keep →
    let mGranted (t : State) : Prop :=
      begun s t b r [] ∧ (t.arb b).streak = 0 ∧ (t.arb b).rotPos.val = m.val ∧ (t.arb b).hitPos = (s.arb b).hitPos ∧
        (t.arb b).ch = (s.arb b).ch.set m none ∧ (t.arb b).met = false
    let nGranted (t : State) : Prop :=
      begun s t b q [] ∧ (t.arb b).streak = min 16 ((s.arb b).streak + 1) ∧ (t.arb b).rotPos = (s.arb b).rotPos ∧
        (t.arb b).hitPos.val = n.val ∧ (t.arb b).ch = (s.arb b).ch.set n none ∧ (t.arb b).met = false
    ((s.arb b).met = false → (s.arb b).streak = 16 →
      ∃ t, exec (.bankGrant b) s = .next t ∧ mGranted t ∧ unchangedBut [.bank b, .arb b] s t) ∧
    (q.kind = .fetch n → (s.chan n).state = .loading → (s.group (groupOf q.addr)).state = .keep →
      ((s.arb b).met = false → (s.arb b).streak < 16 →
        ∃ t, exec (.bankGrant b) s = .next t ∧ nGranted t ∧ unchangedBut [.bank b, .arb b] s t) ∧
      ((s.arb b).met = true → (s.account b).balance ≤ 0 → (s.arb b).scrub = none →
        ∃ t, exec (.bankGrant b) s = .next t ∧ (mGranted t ∨ nGranted t) ∧ t.ties = s.ties + 1 ∧
          unchangedBut [.bank b, .arb b, .ties] s t))

/-- R9, R24: BANK_GRANT begins an operation of the host, a channel or the scrubber only in a group that is KEEP, in a READY bank. -/
def Obligations.GrantReadsOnlyKept : Prop :=
  ∀ (s t : State) (b : BankNo) (o : Op), s.tablesWf → s.BanksOk → exec (.bankGrant b) s = .next t →
    (s.bank b).op = none → (t.bank b).op = some o → o.kind ≠ .refresh → o.kind ≠ .fillSegment →
    (s.group (groupOf o.addr)).state = .keep ∧ s.isReady b = true

/-! ### The check code (chapter 5) -/

/-- R79, R80, R81: a word stored with its computed check bits reads clean, and with any one of its 39 bits inverted it reads corrected, with its
data as stored. -/
def Obligations.SingleErrorsAreCorrected : Prop :=
  ∀ d : Word, classify (encodeWord d) = .clean d ∧
    ∀ i < 39, classify (flipBit (encodeWord d) i) = .corrected d

/-- R79, R81: with any two of its 39 bits inverted a word reads uncorrectable. -/
def Obligations.DoubleErrorsAreDetected : Prop :=
  ∀ (d : Word) (i j : Nat), i < 39 → j < 39 → i ≠ j →
    classify (flipBit (flipBit (encodeWord d) i) j) = .uncorrectable

/-! ### Completions (chapters 1, 2, 3, 5, 6, 7, 10) -/

/-- R101, R86, R84, R178, R179: HOST_READ_COMPLETE of a clean word ends the cycle with HRDY and its data; of an uncorrectable one with HERR and an
UNCORRECTABLE record, which a full log drops: its number is used up, the overflow count rises, to 255, and LOG_OVF is raised. Of a corrected word
for which the newest record already is a CORRECTED one, the repeat count of that record rises, to 15, and no record is made; with CWB 0 at the
operation's start the word stays as it was. The bank is free again. -/
def Obligations.HostReadReturnsData : Prop :=
  ∀ (s : State) (b : BankNo) (o : Op), s.atRest → (s.bank b).op = some o → o.kind = .hostRead → o.words = 1 →
    (∀ d, classify (s.word o.addr) = .clean d →
      ∃ t, exec (.hostReadComplete b) s = .next t ∧ t.host = endedPort s.host (.ready (some d)) ∧
        t.bank b = afterColumn s.config.hold (s.bank b) ∧
        t.arb b = afterColumnArb s.config.hold (s.bank b) (s.arb b) ∧ unchangedBut [.host, .bank b, .arb b] s t) ∧
    (classify (s.word o.addr) = .uncorrectable → s.log.records.length < 8 →
      ∃ t, exec (.hostReadComplete b) s = .next t ∧ t.host = endedPort s.host .error ∧
        t.log = logged s.log { kind := .uncorrectable, source := .host, addr := some o.addr, group := none,
                               syndrome := some (syndromeOf (s.word o.addr)), desc := none, fault := .none } ∧
        t.bank b = afterColumn s.config.hold (s.bank b) ∧
        t.arb b = afterColumnArb s.config.hold (s.bank b) (s.arb b) ∧ unchangedBut [.host, .bank b, .arb b, .log] s t) ∧
    (classify (s.word o.addr) = .uncorrectable → 8 ≤ s.log.records.length →
      ∃ t, exec (.hostReadComplete b) s = .next t ∧ t.host = endedPort s.host .error ∧
        t.log = { s.log with nextSeq := s.log.nextSeq + 1#8, overflow := min 255 (s.log.overflow + 1) } ∧
        t.events = withEvent s.events .logOvf ∧ t.bank b = afterColumn s.config.hold (s.bank b) ∧
        t.arb b = afterColumnArb s.config.hold (s.bank b) (s.arb b) ∧
        unchangedBut [.host, .bank b, .arb b, .log, .events] s t) ∧
    (∀ d older r, classify (s.word o.addr) = .corrected d → o.cwb = false →
      ((s.group (groupOf o.addr)).state ≠ .keep ∨ 15 ≤ (s.group (groupOf o.addr)).weak) → s.log.records = older ++ [r] →
      r.finding.kind = .corrected → r.finding.addr = some o.addr →
      ∃ t, exec (.hostReadComplete b) s = .next t ∧ t.host = endedPort s.host (.ready (some d)) ∧
        t.log = { s.log with records := older ++ [{ r with repeats := min 15 (r.repeats + 1) }] } ∧
        t.bank b = afterColumn s.config.hold (s.bank b) ∧
        t.arb b = afterColumnArb s.config.hold (s.bank b) (s.arb b) ∧ unchangedBut [.host, .bank b, .arb b, .log] s t)

/-- R83, R84, R85, R101, R177: HOST_READ_COMPLETE of a word classed as corrected, CWB being 1 at its start, in a KEEP group: the corrected data
goes to the host, the word is written back repaired, a CORRECTED record is made, and the weak count rises by 1, with a WEAK record and the WEAK
event when it reaches WEAK_THRESHOLD. -/
def Obligations.CorrectedReadIsRepaired : Prop :=
  ∀ (s : State) (b : BankNo) (o : Op) (d : Word), s.atRest → s.tablesWf → (s.bank b).op = some o → o.kind = .hostRead →
    o.words = 1 → o.cwb = true → classify (s.word o.addr) = .corrected d →
    (s.group (groupOf o.addr)).state = .keep → (s.group (groupOf o.addr)).weak < 15 → s.log.records.length < 7 →
    (∀ r, s.log.records.getLast? = some r → r.finding.kind ≠ .corrected ∨ r.finding.addr ≠ some o.addr) →
    let corrected : Finding := { kind := .corrected, source := .host, addr := some o.addr, group := none,
                                 syndrome := some (syndromeOf (s.word o.addr)), desc := none, fault := .none }
    let weak : Finding := { kind := .weak, source := .host, addr := none,
                            group := some (BitVec.ofNat 10 (groupOf o.addr)), syndrome := none, desc := none,
                            fault := .none }
    let atThreshold := (s.group (groupOf o.addr)).weak + 1 = s.config.weakThreshold.toNat
    ∃ t, exec (.hostReadComplete b) s = .next t ∧ t.host = endedPort s.host (.ready (some d)) ∧
      t.word o.addr = encodeWord d ∧ (∀ w, w ≠ o.addr → t.word w = s.word w) ∧
      t.group (groupOf o.addr) = { state := .keep, weak := (s.group (groupOf o.addr)).weak + 1 } ∧
      (∀ g, g ≠ groupOf o.addr → t.group g = s.group g) ∧
      (¬atThreshold → t.log = logged s.log corrected ∧ t.events = s.events) ∧
      (atThreshold → t.log = logged (logged s.log corrected) weak ∧ t.events = withEvent s.events .weak) ∧
      t.bank b = afterColumn s.config.hold (s.bank b) ∧
      t.arb b = afterColumnArb s.config.hold (s.bank b) (s.arb b) ∧
      unchangedBut [.host, .array, .groups, .log, .events, .bank b, .arb b] s t

/-- R104, R16, R103: HOST_WRITE_COMPLETE stores the operation's word and no other (that this is the head's word its grant says,
GrantRanksRefreshThenHost), the head leaves the queue, and the cycle in progress goes on. HOLD is read at the completion (R12; that R106 says
otherwise of queue operations is log entry 27). -/
def Obligations.HostWriteStores : Prop :=
  ∀ (s : State) (b : BankNo) (o : Op) (x : Stored) (e : HostEntry) (rest : List HostEntry), s.atRest → s.tablesWf →
    (s.bank b).op = some o → o.kind = .hostWrite → o.payload = [x] → s.host.queue = e :: rest →
    (∀ f ∈ rest, s.isReady (bankOf f.addr) = true) →
    ∃ t, exec (.hostWriteComplete b) s = .next t ∧ t.word o.addr = x ∧ (∀ w, w ≠ o.addr → t.word w = s.word w) ∧
      t.host = { s.host with queue := rest } ∧ t.bank b = afterColumn s.config.hold (s.bank b) ∧
      unchangedBut ([.array, .host, .bank b] ++ allArbs) s t

/-- R87, R85, R104: MERGE_COMPLETE. A clean target takes the enabled byte lanes and keeps the others, with computed check bits; a corrected one
does so over its corrected data, with a CORRECTED record and its weak count one higher; an uncorrectable one stays as it was, with a MERGE_FAILED
record. In each case the entry leaves the queue. HOLD is read at the completion (R12; that R106 says otherwise of queue operations is log entry
27). -/
def Obligations.MergeStoresLanes : Prop :=
  ∀ (s : State) (b : BankNo) (o : Op) (e : HostEntry), s.atRest → s.tablesWf → (s.bank b).op = some o →
    o.kind = .hostMerge → s.host.queue = [e] →
    let merged (t : State) (d : Word) : Prop :=
      (∀ i < 4, (t.word o.addr).data.extractLsb' (8 * i) 8 =
        if e.lanes.getLsbD i then e.data.extractLsb' (8 * i) 8 else d.extractLsb' (8 * i) 8) ∧
        (t.word o.addr).check = checkBitsOf (t.word o.addr).data ∧ ∀ w, w ≠ o.addr → t.word w = s.word w
    (∀ d, classify (s.word o.addr) = .clean d →
      ∃ t, exec (.mergeComplete b) s = .next t ∧ merged t d ∧ t.host = { s.host with queue := [] } ∧
        t.bank b = afterColumn s.config.hold (s.bank b) ∧
        t.arb b = afterColumnArb s.config.hold (s.bank b) (s.arb b) ∧
        unchangedBut [.array, .host, .bank b, .arb b] s t) ∧
    (∀ d, classify (s.word o.addr) = .corrected d → s.log.records.length < 8 →
      (∀ r, s.log.records.getLast? = some r → r.finding.kind ≠ .corrected ∨ r.finding.addr ≠ some o.addr) →
      (s.group (groupOf o.addr)).state = .keep → (s.group (groupOf o.addr)).weak < 15 →
      (s.group (groupOf o.addr)).weak + 1 ≠ s.config.weakThreshold.toNat →
      ∃ t, exec (.mergeComplete b) s = .next t ∧ merged t d ∧ t.host = { s.host with queue := [] } ∧
        t.group (groupOf o.addr) = { state := .keep, weak := (s.group (groupOf o.addr)).weak + 1 } ∧
        (∀ g, g ≠ groupOf o.addr → t.group g = s.group g) ∧
        t.log = logged s.log { kind := .corrected, source := .host, addr := some o.addr, group := none,
                               syndrome := some (syndromeOf (s.word o.addr)), desc := none, fault := .none } ∧
        t.bank b = afterColumn s.config.hold (s.bank b) ∧
        t.arb b = afterColumnArb s.config.hold (s.bank b) (s.arb b) ∧
        unchangedBut [.array, .groups, .log, .host, .bank b, .arb b] s t) ∧
    (classify (s.word o.addr) = .uncorrectable → s.log.records.length < 8 →
      ∃ t, exec (.mergeComplete b) s = .next t ∧ t.host = { s.host with queue := [] } ∧
        t.log = logged s.log { kind := .mergeFailed, source := .host, addr := some o.addr, group := none,
                               syndrome := some (syndromeOf (s.word o.addr)), desc := none, fault := .none } ∧
        t.bank b = afterColumn s.config.hold (s.bank b) ∧
        t.arb b = afterColumnArb s.config.hold (s.bank b) (s.arb b) ∧
        unchangedBut [.log, .host, .bank b, .arb b] s t)

/-- R31, R32, R33, R34, R35, R40: BANK_GRANT of the FILL request, alone at its bank, of a FILLING group begins a WRITE of zeros with the code of
zero. FILL_SEGMENT_COMPLETE stores the operation's words. Before segment 63 the next segment is requested, unless the engine is held, which
records its progress alone; after a restart segment 0 is; at segment 63 the group becomes KEEP with a weak count of 0, and the entry moves on or
leaves, with FILL_DONE when the queue is then empty. Of an ending entry the group becomes DISCARD and the entry leaves, without FILL_DONE. -/
def Obligations.FillSegmentsMakeAGroupKept : Prop :=
  (∀ (s : State) (b : BankNo) (q : Request), s.decides b → (s.account b).balance ≤ 4 → s.solePending b .fill q →
    q.kind = .fillSegment → (s.group (groupOf q.addr)).state = .filling →
    ∃ t, exec (.bankGrant b) s = .next t ∧ begun s t b q (List.replicate q.words { data := 0#32, check := 0#7 }) ∧
      t.fill = { s.fill with restart := false } ∧ t.arb b = s.afterNormal b .fill 4 q ∧
      unchangedBut [.bank b, .arb b, .fill] s t) ∧
  (∀ (s : State) (b : BankNo) (o : Op) (e : FillEntry) (rest : List FillEntry), s.atRest → s.tablesWf →
    (s.bank b).op = some o → o.kind = .fillSegment → o.payload = List.replicate 64 (encodeWord 0#32) →
    s.fill.queue = e :: rest →
    let zeroed (t : State) : Prop :=
      (∀ w ∈ burstAddrs o.addr 64, t.word w = { data := 0#32, check := 0#7 }) ∧
        (∀ w, w ∉ burstAddrs o.addr 64 → t.word w = s.word w) ∧ t.bank b = afterColumn s.config.hold (s.bank b)
    let asks (t : State) (segment : Nat) : Prop :=
      (t.arb (bankOfGroup e.next)).fill =
          some { kind := .fillSegment, addr := fillSegmentBase e.next segment, words := 64 } ∧
        ∀ c, { t.arb c with fill := none } = { s.columnDone b c with fill := none }
    (s.fill.ending = false → s.fill.restart = false → s.fill.segment < 63 → s.fill.held = false →
      (s.group e.next).state = .filling → s.isReady (bankOfGroup e.next) = true →
      ∃ t, exec (.fillSegmentComplete b) s = .next t ∧ zeroed t ∧ asks t (s.fill.segment + 1) ∧
        t.fill = { s.fill with segment := s.fill.segment + 1 } ∧
        unchangedBut ([.array, .fill, .bank b] ++ allArbs) s t) ∧
    (s.fill.ending = false → s.fill.restart = false → s.fill.segment < 63 → s.fill.held = true →
      ∃ t, exec (.fillSegmentComplete b) s = .next t ∧ zeroed t ∧ t.arb b = s.columnDone b b ∧
        t.fill = { s.fill with segment := s.fill.segment + 1 } ∧ unchangedBut [.array, .fill, .bank b, .arb b] s t) ∧
    (s.fill.ending = false → s.fill.restart = true → s.fill.held = false → (s.group e.next).state = .filling →
      s.isReady (bankOfGroup e.next) = true →
      ∃ t, exec (.fillSegmentComplete b) s = .next t ∧ zeroed t ∧ asks t 0 ∧
        t.fill = { s.fill with segment := 0, restart := false } ∧
        unchangedBut ([.array, .fill, .bank b] ++ allArbs) s t) ∧
    (s.fill.ending = false → s.fill.restart = false → s.fill.segment = 63 →
      ∃ t, exec (.fillSegmentComplete b) s = .next t ∧ zeroed t ∧
        t.group e.next = { state := .keep, weak := 0 } ∧ (∀ g, g ≠ e.next → t.group g = s.group g) ∧
        t.fill = { s.fill with
          segment := 0
          queue := if e.next + 1 < e.first + e.count then { e with next := e.next + 1 } :: rest else rest } ∧
        t.events = (if e.first + e.count ≤ e.next + 1 ∧ rest = [] then withEvent s.events .fillDone else s.events) ∧
        t.arb b = s.columnDone b b ∧ unchangedBut [.array, .groups, .fill, .events, .bank b, .arb b] s t) ∧
    (s.fill.ending = true →
      ∃ t, exec (.fillSegmentComplete b) s = .next t ∧ zeroed t ∧
        t.group e.next = { state := .discard, weak := 0 } ∧ (∀ g, g ≠ e.next → t.group g = s.group g) ∧
        t.fill = { s.fill with queue := rest, ending := false, segment := 0, restart := false } ∧
        (t.needsRefresh (s.cursorGroup b) = true → t.account b = s.account b) ∧ t.arb b = s.columnDone b b ∧
        unchangedBut [.array, .groups, .fill, .bank b, .arb b, .account b] s t))

/-- R94, R90, R92, R82, R84, R85, R86, R95: SCRUB_SEGMENT_COMPLETE. The cursor moves on; at the wrap the pass count rises by 1. A corrected word
is written back and an uncorrectable one left, each with its record. Without a credit the scrubber goes to IDLE; held, it stays HELD; a segment
that soft reset has disowned moves nothing. With a credit it searches: in a row that still qualifies it asks for the next segment; else the cursor
moves to the first group after it that is KEEP in a READY bank, or, across the wrap and counting a pass, before it, and it asks for segment 0
there; with none it stays IDLE where it is. -/
def Obligations.ScrubSegmentMovesTheCursor : Prop :=
  ∀ (s : State) (b : BankNo) (o : Op), s.atRest → (s.bank b).op = some o → o.kind = .scrubSegment → o.words = 16 →
    let finished (t : State) (ps : List Part) : Prop :=
      t.bank b = afterColumn s.config.hold (s.bank b) ∧ unchangedBut (.bank b :: ps) s t
    let clean (w : WordAddr) : Prop := ∃ d, classify (s.word w) = .clean d
    (o.residual = true → (∀ w ∈ burstAddrs o.addr 16, clean w) →
      ∃ t, exec (.scrubSegmentComplete b) s = .next t ∧ t.arb b = s.columnDone b b ∧ finished t [.arb b]) ∧
    (o.residual = false → (∀ w ∈ burstAddrs o.addr 16, clean w) → s.scrub.state = .held →
      ∃ t, exec (.scrubSegmentComplete b) s = .next t ∧
        (s.scrub.segment ≠ 31#5 → t.scrub = { s.scrub with segment := s.scrub.segment + 1#5 }) ∧
        t.arb b = s.columnDone b b ∧ finished t [.arb b, .scrub]) ∧
    (o.residual = false → (∀ w ∈ burstAddrs o.addr 16, clean w) → s.scrub.state = .active → s.scrub.credits = 0 →
      ∃ t, exec (.scrubSegmentComplete b) s = .next t ∧
        (s.scrub.segment ≠ 31#5 →
          t.scrub = { s.scrub with segment := s.scrub.segment + 1#5, state := .idle }) ∧
        (s.scrub.segment = 31#5 → s.scrub.row ≠ 2047#11 →
          t.scrub = { s.scrub with segment := 0#5, row := s.scrub.row + 1#11, state := .idle }) ∧
        (s.scrub.segment = 31#5 → s.scrub.row = 2047#11 → s.scrub.bank ≠ 3 →
          t.scrub = { s.scrub with segment := 0#5, row := 0#11, bank := s.scrub.bank + 1, state := .idle }) ∧
        (s.scrub.segment = 31#5 → s.scrub.row = 2047#11 → s.scrub.bank = 3 →
          t.scrub = { bank := 0, row := 0#11, segment := 0#5, credits := 0, pass := s.scrub.pass + 1#16, state := .idle }) ∧
        t.arb b = s.columnDone b b ∧ finished t [.arb b, .scrub]) ∧
    (∀ x d, s.tablesWf → o.residual = false → x ∈ burstAddrs o.addr 16 → (∀ w ∈ burstAddrs o.addr 16, w ≠ x → clean w) →
      s.scrub.state = .active → s.scrub.credits = 0 → s.log.records.length < 8 →
      (∀ r, s.log.records.getLast? = some r → r.finding.kind ≠ .corrected ∨ r.finding.addr ≠ some x) →
      let found (kind : RecordKind) : ErrorLog :=
        logged s.log { kind := kind, source := .scrub, addr := some x, group := none,
                       syndrome := some (syndromeOf (s.word x)), desc := none, fault := .none }
      let goesOn (t : State) : Prop :=
        s.scrub.segment ≠ 31#5 → t.scrub = { s.scrub with segment := s.scrub.segment + 1#5, state := .idle }
      (classify (s.word x) = .corrected d → (s.group (groupOf x)).state = .keep → (s.group (groupOf x)).weak < 15 →
        (s.group (groupOf x)).weak + 1 ≠ s.config.weakThreshold.toNat →
        ∃ t, exec (.scrubSegmentComplete b) s = .next t ∧ t.word x = encodeWord d ∧
          (∀ w, w ≠ x → t.word w = s.word w) ∧ t.log = found .corrected ∧
          t.group (groupOf x) = { state := .keep, weak := (s.group (groupOf x)).weak + 1 } ∧
          (∀ g, g ≠ groupOf x → t.group g = s.group g) ∧
          t.arb b = s.columnDone b b ∧ goesOn t ∧ finished t [.arb b, .scrub, .array, .groups, .log]) ∧
      (classify (s.word x) = .uncorrectable →
        ∃ t, exec (.scrubSegmentComplete b) s = .next t ∧ t.log = found .uncorrectable ∧
          t.arb b = s.columnDone b b ∧ goesOn t ∧ finished t [.arb b, .scrub, .log])) ∧
    (o.residual = false → (∀ w ∈ burstAddrs o.addr 16, clean w) → s.scrub.state = .active → 1 ≤ s.scrub.credits →
      s.scrub.segment ≠ 31#5 →
      let qualifies (g : Nat) : Prop := (s.group g).state = .keep ∧ s.isReady (bankOfGroup g) = true
      let here : Nat := groupOfRow s.scrub.bank s.scrub.row
      let request (c : Scrubber) : Request :=
        { kind := .scrubSegment, addr := scrubSegmentBase c.bank c.row c.segment, words := 16 }
      let waits (t : State) (c : Scrubber) : Prop :=
        t.scrub = { c with state := .wait } ∧ finished t (.scrub :: allArbs) ∧
          ∀ a, t.arb a = if a = c.bank then { s.columnDone b a with scrub := some (request c) } else s.columnDone b a
      let firstRow (g : Nat) : Scrubber :=
        { s.scrub with bank := bankOfGroup g, row := BitVec.ofNat 11 (8 * (g % 256)), segment := 0#5 }
      (qualifies here →
        ∃ t, exec (.scrubSegmentComplete b) s = .next t ∧ waits t { s.scrub with segment := s.scrub.segment + 1#5 }) ∧
      (∀ g, ¬qualifies here → here < g → g < 1024 → qualifies g → (∀ k, here < k → k < g → ¬qualifies k) →
        ∃ t, exec (.scrubSegmentComplete b) s = .next t ∧ waits t (firstRow g)) ∧
      (∀ g, ¬qualifies here → g < here → qualifies g → (∀ k < g, ¬qualifies k) →
        (∀ k, here < k → k < 1024 → ¬qualifies k) →
        ∃ t, exec (.scrubSegmentComplete b) s = .next t ∧ waits t { firstRow g with pass := s.scrub.pass + 1#16 }) ∧
      ((∀ g < 1024, ¬qualifies g) →
        ∃ t, exec (.scrubSegmentComplete b) s = .next t ∧
          t.scrub = { s.scrub with segment := s.scrub.segment + 1#5, state := .idle } ∧
          t.arb b = s.columnDone b b ∧ finished t [.arb b, .scrub]))

/-! ### The transfer channels (chapters 7 and 8) -/

/-- R118, R119, R146, R147, R12: DESCRIPTOR_FETCH_COMPLETE. Of four clean words, OWN 0 pauses the channel with UNOWNED and raises CHn_ATTN; OWN 1
with a failing check halts it with that check's code, a CHANNEL_FAULT record and CHn_STOP. An uncorrectable word among them halts it with
DESC_UNCORRECTABLE, after the UNCORRECTABLE record of the word. -/
def Obligations.FetchPausesOrHalts : Prop :=
  ∀ (s : State) (b : BankNo) (n : ChanNo) (o : Op), s.atRest → (s.bank b).op = some o →
    o.kind = .fetch n → o.words = 4 → o.residual = false → (s.chan n).aborting = false → s.portQuiet →
    let fetched (w0 w1 w2 w3 : Word) : Prop :=
      (burstAddrs o.addr 4).map (fun w => classify (s.word w)) = [.clean w0, .clean w1, .clean w2, .clean w3]
    (∀ w0 w1 w2 w3, fetched w0 w1 w2 w3 → descOwn w0 = false →
      ∃ t, exec (.descriptorFetchComplete b) s = .next t ∧
        t.chan n = { s.chan n with state := .paused, pauses := { (s.chan n).pauses with unowned := true } } ∧
        t.events = withEvent s.events (.attn n) ∧ t.bank b = afterColumn s.config.hold (s.bank b) ∧
        t.arb b = s.columnDone b b ∧ unchangedBut [.chan n, .events, .bank b, .arb b] s t) ∧
    (∀ w0 w1 w2 w3 code, fetched w0 w1 w2 w3 → descOwn w0 = true →
      validateDescriptor (s.chan n).fenceBase (s.chan n).fenceLimit w0 w1 w2 w3 = .inl code →
      s.soleWork n b → s.log.records.length < 8 →
      ∃ t, exec (.descriptorFetchComplete b) s = .next t ∧ t.chan n = haltedChan (s.chan n) code ∧
        t.log = logged s.log { kind := .channelFault, source := .ch n, addr := none, group := none, syndrome := none,
                               desc := some (s.chan n).desc, fault := code } ∧
        t.events = withEvent s.events (.stop n) ∧ t.bank b = afterColumn s.config.hold (s.bank b) ∧
        t.arb b = s.columnDone b b ∧ unchangedBut [.chan n, .log, .events, .bank b, .arb b] s t) ∧
    (∀ x ∈ burstAddrs o.addr 4, classify (s.word x) = .uncorrectable →
      (∀ w ∈ burstAddrs o.addr 4, w ≠ x → ∃ d, classify (s.word w) = .clean d) → s.soleWork n b →
      s.log.records.length < 7 →
      ∃ t, exec (.descriptorFetchComplete b) s = .next t ∧ t.chan n = haltedChan (s.chan n) .descUncorrectable ∧
        t.log = logged (logged s.log
          { kind := .uncorrectable, source := .ch n, addr := some x, group := none,
            syndrome := some (syndromeOf (s.word x)), desc := none, fault := .none })
          { kind := .channelFault, source := .ch n, addr := none, group := none, syndrome := none,
            desc := some (s.chan n).desc, fault := .descUncorrectable } ∧
        t.events = withEvent s.events (.stop n) ∧ t.bank b = afterColumn s.config.hold (s.bank b) ∧
        t.arb b = s.columnDone b b ∧ unchangedBut [.chan n, .log, .events, .bank b, .arb b] s t)

/-- R120, R121, R123, R124, R125, R126, R156: DESCRIPTOR_FETCH_COMPLETE of an owned, valid descriptor installs it. A channel with pause reasons is
PAUSED; one without is ACTIVE: a COPY and a STREAM_OUT ask at once for a read of the first words of the source, a PATTERN for a write of the first
words of the destination, at most 8 and within the row; a STREAM_IN asks for nothing, and begins a beat when its SRQ line is high and the port is
free. -/
def Obligations.FetchInstallsDescriptor : Prop :=
  ∀ (s : State) (b : BankNo) (n : ChanNo) (o : Op) (w0 w1 w2 w3 : Word) (op : ChanOp), s.atRest → (s.bank b).op = some o →
    o.kind = .fetch n → o.words = 4 → o.residual = false → (s.chan n).aborting = false → s.portQuiet →
    (burstAddrs o.addr 4).map (fun w => classify (s.word w)) = [.clean w0, .clean w1, .clean w2, .clean w3] →
    descOwn w0 = true →
    validateDescriptor (s.chan n).fenceBase (s.chan n).fenceLimit w0 w1 w2 w3 = .inr op →
    let installed : Channel := { s.chan n with
      work := some (installedWork op w0 w1 w2 w3), remaining := descCount w0, ended := none, fifo := [] }
    ((s.chan n).pauses.any = true →
      ∃ t, exec (.descriptorFetchComplete b) s = .next t ∧ t.chan n = { installed with state := .paused } ∧
        t.bank b = afterColumn s.config.hold (s.bank b) ∧ t.arb b = s.columnDone b b ∧
        unchangedBut [.chan n, .bank b, .arb b] s t) ∧
    ((s.chan n).pauses.any = false → (op = .copy ∨ op = .streamOut) → s.soleWork n b →
      s.isReady (bankOf (wordAddrOf w1)) = true →
      ∃ t, exec (.descriptorFetchComplete b) s = .next t ∧ t.chan n = { installed with state := .active } ∧
        (∀ c, t.arb c = withRequest n
          { kind := .dataRead n, addr := wordAddrOf w1
            words := min 8 (min (descCount w0) (wordsLeftInRow (wordAddrOf w1))) } c (s.columnDone b c)) ∧
        t.bank b = afterColumn s.config.hold (s.bank b) ∧ unchangedBut ([.chan n, .bank b] ++ allArbs) s t) ∧
    ((s.chan n).pauses.any = false → op = .pattern → s.soleWork n b → s.isReady (bankOf (wordAddrOf w2)) = true →
      ∃ t, exec (.descriptorFetchComplete b) s = .next t ∧ t.chan n = { installed with state := .active } ∧
        (∀ c, t.arb c = withRequest n
          { kind := .dataWrite n, addr := wordAddrOf w2
            words := min 8 (min (descCount w0) (wordsLeftInRow (wordAddrOf w2))) } c (s.columnDone b c)) ∧
        t.bank b = afterColumn s.config.hold (s.bank b) ∧ unchangedBut ([.chan n, .bank b] ++ allArbs) s t) ∧
    ((s.chan n).pauses.any = false → op = .streamIn → s.soleWork n b →
      ∃ t, exec (.descriptorFetchComplete b) s = .next t ∧ t.chan n = { installed with state := .active } ∧
        t.stream = (if s.stream.beat = none ∧ s.stream.srq.get n = true then
          { s.stream with beat := some { ch := n, out := none, residual := false }, rot := n, beatCh := n } else s.stream) ∧
        t.bank b = afterColumn s.config.hold (s.bank b) ∧ t.arb b = s.columnDone b b ∧
        unchangedBut [.chan n, .stream, .bank b, .arb b] s t)

/-- R119: a descriptor that passes the checks moves at least one word, every word it writes lies in the fence window, every word it uses lies in
the address space, and a COPY reads no word that it writes. -/
def Obligations.ValidDescriptorLiesInTheFence : Prop :=
  ∀ (base limit : WordAddr) (w0 w1 w2 w3 : Word) (op : ChanOp), validateDescriptor base limit w0 w1 w2 w3 = .inr op →
    1 ≤ descCount w0 ∧
    (usesDst op = true → ∀ k < descCount w0, base.toNat ≤ (wordAddrOf w2).toNat + k ∧
      (wordAddrOf w2).toNat + k ≤ limit.toNat) ∧
    (usesSrc op = true → ∀ k < descCount w0, (wordAddrOf w1).toNat + k < 2 ^ 22) ∧
    (op = .copy → ∀ j < descCount w0, ∀ k < descCount w0, (wordAddrOf w1).toNat + j ≠ (wordAddrOf w2).toNat + k)

/-- R121, R122, R123, R136, R148, R156: BANK_GRANT of a channel's data read, alone at its bank, of a KEEP group moves the source cursor on by the
burst, and a COPY with words in its FIFO and no write outstanding asks for its next write. CHANNEL_READ_COMPLETE. Clean words join the staging
FIFO; a COPY with no write outstanding then asks for a write burst at its destination cursor, and a STREAM_OUT whose SRQn is high begins a beat
with the first word. A residual read delivers nothing. An uncorrectable word halts the channel with READ_UNCORRECTABLE and its address. -/
def Obligations.ChannelReadFillsTheFifo : Prop :=
  (∀ (s : State) (b : BankNo) (n : ChanNo) (q : Request) (w : Work), s.decides b → (s.account b).balance ≤ 4 →
    s.solePending b (.ch n) q → (∀ c, c ≠ b → (s.arb c).ch.get n = none) → q.kind = .dataRead n →
    (s.group (groupOf q.addr)).state = .keep → (s.chan n).work = some w →
    let advanced : Channel := { s.chan n with
      work := some { w with src := w.src + BitVec.ofNat 22 q.words, unread := w.unread - q.words } }
    let after : Arbiter := s.afterNormal b (.ch n) (positionOf (.ch n)) q
    ((w.op = .streamOut ∨ w.op = .copy ∧ (s.chan n).fifo = []) →
      ∃ t, exec (.bankGrant b) s = .next t ∧ begun s t b q [] ∧ t.chan n = advanced ∧ t.arb b = after ∧
        unchangedBut [.bank b, .arb b, .chan n] s t) ∧
    (w.op = .copy → (s.chan n).fifo ≠ [] → runs (s.chan n) = true → s.chanWriting n = false →
      s.isReady (bankOf w.dst) = true →
      ∃ t, exec (.bankGrant b) s = .next t ∧ begun s t b q [] ∧ t.chan n = advanced ∧
        (∀ c, t.arb c = withRequest n
          { kind := .dataWrite n, addr := w.dst, words := min 8 (min (s.chan n).fifo.length (wordsLeftInRow w.dst)) } c
          (if c = b then after else s.arb c)) ∧
        unchangedBut ([.bank b, .chan n] ++ allArbs) s t)) ∧
  (∀ (s : State) (b : BankNo) (n : ChanNo) (o : Op), s.atRest → (s.bank b).op = some o → o.kind = .dataRead n →
    (∀ (w : Work) (ds : List Word), (s.chan n).work = some w → o.residual = false → (s.chan n).aborting = false →
      (burstAddrs o.addr o.words).map (fun x => classify (s.word x)) = ds.map ReadClass.clean → s.allReady →
      (w.op = .copy → s.portQuiet → runs (s.chan n) = true → s.soleWork n b → ds ≠ [] →
        ∃ t, exec (.channelReadComplete b) s = .next t ∧
          t.chan n = { s.chan n with
            fifo := (s.chan n).fifo ++ ds.map fun d => ({ data := d, last := false } : FifoWord) } ∧
          (∀ c, t.arb c = withRequest n
            { kind := .dataWrite n, addr := w.dst
              words := min 8 (min ((s.chan n).fifo.length + ds.length) (wordsLeftInRow w.dst)) } c (s.columnDone b c)) ∧
          t.bank b = afterColumn s.config.hold (s.bank b) ∧ unchangedBut ([.chan n, .bank b] ++ allArbs) s t) ∧
      (∀ d rest, w.op = .streamOut → ds = d :: rest → runs (s.chan n) = true → s.stream.beat = none →
        s.stream.srq.get n = true → (s.chan n).fifo = [] → (∀ m, s.eligible m = false) →
        ∃ t, exec (.channelReadComplete b) s = .next t ∧
          t.chan n = { s.chan n with fifo := ds.map fun x => ({ data := x, last := false } : FifoWord) } ∧
          t.stream = { s.stream with
            beat := some { ch := n, out := some d, residual := false }, rot := n, beatCh := n } ∧
          t.bank b = afterColumn s.config.hold (s.bank b) ∧
          unchangedBut ([.chan n, .bank b, .stream] ++ allArbs) s t)) ∧
    (o.residual = true → s.portQuiet → (∀ w ∈ burstAddrs o.addr o.words, ∃ d, classify (s.word w) = .clean d) →
      ∃ t, exec (.channelReadComplete b) s = .next t ∧ t.bank b = afterColumn s.config.hold (s.bank b) ∧
        t.arb b = s.columnDone b b ∧ unchangedBut [.bank b, .arb b] s t) ∧
    (o.words = 1 → o.residual = false → (s.chan n).aborting = false → classify (s.word o.addr) = .uncorrectable →
      s.soleWork n b → s.portQuiet → s.log.records.length < 7 →
      ∃ t, exec (.channelReadComplete b) s = .next t ∧ t.chan n = haltedChan (s.chan n) .readUncorrectable ∧
        t.log = logged (logged s.log
          { kind := .uncorrectable, source := .ch n, addr := some o.addr, group := none,
            syndrome := some (syndromeOf (s.word o.addr)), desc := none, fault := .none })
          { kind := .channelFault, source := .ch n, addr := some o.addr, group := none, syndrome := none,
            desc := some (s.chan n).desc, fault := .readUncorrectable } ∧
        t.events = withEvent s.events (.stop n) ∧ t.bank b = afterColumn s.config.hold (s.bank b) ∧
        t.arb b = s.columnDone b b ∧ unchangedBut [.chan n, .log, .events, .bank b, .arb b] s t))

/-- R121, R122, R123, R124, R125, R16, R127, R128, R129: BANK_GRANT of a channel's data write, alone at its bank, to a KEEP group carries the
pattern word, or the words at the head of the FIFO, with computed check bits, and moves the destination cursor on; a COPY with words to read, a
free slot and no read outstanding asks for its next read. CHANNEL_WRITE_COMPLETE stores the operation's words and no other, REMAINING falls by
their number, and they leave the FIFO (PATTERN uses none). When words remain, and none carried the last mark, the descriptor goes on; when none
remain it ends with COMPLETE, and when a STREAM_IN's last mark was carried before that, with SHORT. With WB 1 the write-back is requested; with WB
0 DONE rises, NOTE raises CHn_ATTN, and LAST 1 stops the channel with END. -/
def Obligations.ChannelWriteCountsDown : Prop :=
  (∀ (s : State) (b : BankNo) (n : ChanNo) (q : Request) (w : Work), s.decides b → (s.account b).balance ≤ 4 →
    s.solePending b (.ch n) q → (∀ c, c ≠ b → (s.arb c).ch.get n = none) → q.kind = .dataWrite n →
    (s.group (groupOf q.addr)).state = .keep → (s.chan n).work = some w →
    let payload : List Stored :=
      if w.op = .pattern then List.replicate q.words (encodeWord w.word1)
      else ((s.chan n).fifo.take q.words).map fun x => encodeWord x.data
    let advanced : Channel := { s.chan n with work := some { w with dst := w.dst + BitVec.ofNat 22 q.words } }
    let after : Arbiter := s.afterNormal b (.ch n) (positionOf (.ch n)) q
    ((w.op = .pattern ∨ w.op = .streamIn ∨ w.op = .copy ∧ w.unread = 0) →
      ∃ t, exec (.bankGrant b) s = .next t ∧ begun s t b q payload ∧ t.chan n = advanced ∧ t.arb b = after ∧
        unchangedBut [.bank b, .arb b, .chan n] s t) ∧
    (w.op = .copy → 1 ≤ w.unread → (s.chan n).fifo.length < 16 → runs (s.chan n) = true → s.chanReading n = false →
      s.isReady (bankOf w.src) = true →
      ∃ t, exec (.bankGrant b) s = .next t ∧ begun s t b q payload ∧ t.chan n = advanced ∧
        (∀ c, t.arb c = withRequest n
          { kind := .dataRead n, addr := w.src
            words := min 8 (min (min w.unread (16 - (s.chan n).fifo.length)) (wordsLeftInRow w.src)) } c
          (if c = b then after else s.arb c)) ∧
        unchangedBut ([.bank b, .chan n] ++ allArbs) s t)) ∧
  (∀ (s : State) (b : BankNo) (n : ChanNo) (o : Op) (w : Work), s.atRest → s.tablesWf → (s.bank b).op = some o →
    o.kind = .dataWrite n → o.residual = false → o.payload.length = o.words → o.words ≤ 8 →
    (s.chan n).work = some w → (s.chan n).aborting = false → s.portQuiet →
    let stored (t : State) : Prop :=
      (∀ i, (h : i < o.payload.length) → t.word (o.addr + BitVec.ofNat 22 i) = o.payload[i]) ∧
        (∀ x, x ∉ burstAddrs o.addr o.words → t.word x = s.word x) ∧ t.bank b = afterColumn s.config.hold (s.bank b)
    let left : List FifoWord := if w.op = .pattern then (s.chan n).fifo else (s.chan n).fifo.drop o.words
    let reports (t : State) : Prop :=
      (∀ c, t.arb c = withRequest n
        { kind := .writeback n, addr := descWord (s.chan n).desc, words := 1 } c (s.columnDone b c)) ∧
        unchangedBut ([.array, .chan n, .bank b] ++ allArbs) s t
    (o.words < (s.chan n).remaining → (w.op = .copy ∨ w.op = .pattern) → (∀ x ∈ (s.chan n).fifo, x.last = false) →
      s.allReady →
      ∃ t, exec (.channelWriteComplete b) s = .next t ∧ stored t ∧
        t.chan n = { s.chan n with remaining := (s.chan n).remaining - o.words, fifo := left } ∧
        (∀ c, { t.arb c with ch := (t.arb c).ch.set n none } =
          { s.columnDone b c with ch := (s.columnDone b c).ch.set n none }) ∧
        unchangedBut ([.array, .chan n, .bank b] ++ allArbs) s t) ∧
    (o.words = (s.chan n).remaining → w.wb = true → s.isReady (bankOf (descWord (s.chan n).desc)) = true →
      ∃ t, exec (.channelWriteComplete b) s = .next t ∧ stored t ∧
        t.chan n = { s.chan n with remaining := 0, fifo := left, ended := some .complete } ∧ reports t) ∧
    (w.op = .streamIn → (∃ x ∈ (s.chan n).fifo.take o.words, x.last = true) → o.words < (s.chan n).remaining →
      w.wb = true → s.isReady (bankOf (descWord (s.chan n).desc)) = true →
      ∃ t, exec (.channelWriteComplete b) s = .next t ∧ stored t ∧
        t.chan n = { s.chan n with
          remaining := (s.chan n).remaining - o.words, fifo := left, ended := some .short } ∧ reports t) ∧
    (o.words = (s.chan n).remaining → w.wb = false → w.last = true →
      ∃ t, exec (.channelWriteComplete b) s = .next t ∧ stored t ∧
        t.chan n = stoppedChan { s.chan n with done := (s.chan n).done + 1#16 } .ended ∧
        t.events = withEvent (if w.note then withEvent s.events (.attn n) else s.events) (.stop n) ∧
        t.arb b = s.columnDone b b ∧ unchangedBut [.array, .chan n, .events, .bank b, .arb b] s t))

/-- R128, R129, R141, R16: BANK_GRANT of a channel's write-back, alone at its bank, to a KEEP group carries the status word: OWN 0, OP, NOTE, LAST
and WB as fetched, the outcome, and the transferred count. WRITEBACK_COMPLETE stores the operation's word. DONE rises by 1 and NOTE raises
CHn_ATTN; then LAST 1 stops the channel with END and CHn_STOP, and LAST 0 fetches the descriptor at NEXT; an abort taken after the descriptor had
ended stops it as ABORTED in their place. After the report of an abort the channel stops as ABORTED, and DONE stays. -/
def Obligations.WritebackEndsDescriptor : Prop :=
  (∀ (s : State) (b : BankNo) (n : ChanNo) (q : Request) (w : Work) (outcome : DescOutcome), s.decides b →
    (s.account b).balance ≤ 4 → s.solePending b (.ch n) q → q.kind = .writeback n →
    (s.group (groupOf q.addr)).state = .keep → (s.chan n).work = some w → (s.chan n).ended = some outcome →
    ∃ t z, exec (.bankGrant b) s = .next t ∧ begun s t b q [encodeWord z] ∧
      z.getLsbD 31 = false ∧ z.extractLsb' 28 3 = opCode w.op ∧ z.getLsbD 27 = w.note ∧ z.getLsbD 26 = w.last ∧
      z.getLsbD 25 = w.wb ∧ z.extractLsb' 22 3 = 0#3 ∧
      z.extractLsb' 20 2 = (match outcome with
        | .complete => 1#2
        | .short => 2#2
        | .aborted => 3#2) ∧
      z.extractLsb' 16 4 = 0#4 ∧ z.extractLsb' 0 16 = BitVec.ofNat 16 (w.count - (s.chan n).remaining) ∧
      t.arb b = s.afterNormal b (.ch n) (positionOf (.ch n)) q ∧ unchangedBut [.bank b, .arb b] s t) ∧
  (∀ (s : State) (b : BankNo) (n : ChanNo) (o : Op) (x : Stored) (w : Work) (outcome : DescOutcome), s.atRest → s.tablesWf →
    (s.bank b).op = some o → o.kind = .writeback n → o.residual = false → o.payload = [x] → (s.chan n).work = some w →
    (s.chan n).ended = some outcome →
    let noted : EventUnit := if w.note then withEvent s.events (.attn n) else s.events
    let counted : Channel := { s.chan n with done := (s.chan n).done + 1#16 }
    let next : DescAddr := w.word3.extractLsb' 4 20
    let stored (t : State) : Prop :=
      t.word o.addr = x ∧ (∀ y, y ≠ o.addr → t.word y = s.word y) ∧ t.bank b = afterColumn s.config.hold (s.bank b)
    let stops (t : State) : Prop :=
      t.arb b = s.columnDone b b ∧ unchangedBut [.array, .chan n, .events, .bank b, .arb b] s t
    (outcome = .aborted →
      ∃ t, exec (.writebackComplete b) s = .next t ∧ stored t ∧ t.chan n = stoppedChan (s.chan n) .aborted ∧
        t.events = withEvent s.events (.stop n) ∧ stops t) ∧
    (outcome ≠ .aborted → (s.chan n).aborting = true →
      ∃ t, exec (.writebackComplete b) s = .next t ∧ stored t ∧ t.chan n = stoppedChan counted .aborted ∧
        t.events = withEvent noted (.stop n) ∧ stops t) ∧
    (outcome ≠ .aborted → (s.chan n).aborting = false → w.last = true →
      ∃ t, exec (.writebackComplete b) s = .next t ∧ stored t ∧ t.chan n = stoppedChan counted .ended ∧
        t.events = withEvent noted (.stop n) ∧ stops t) ∧
    (outcome ≠ .aborted → (s.chan n).aborting = false → w.last = false → (s.chan n).residual = false →
      s.isReady (bankOf (descWord next)) = true →
      ∃ t, exec (.writebackComplete b) s = .next t ∧ stored t ∧
        t.chan n = { counted with
          state := .loading, desc := next, work := none, remaining := 0, ended := none, fifo := [] } ∧
        (∀ c, t.arb c = withRequest n { kind := .fetch n, addr := descWord next, words := 4 } c (s.columnDone b c)) ∧
        t.events = noted ∧ unchangedBut ([.array, .chan n, .events, .bank b] ++ allArbs) s t))

/-- R134, R141: with a descriptor installed that has not ended and nothing outstanding, CHANNEL_PAUSE_TAKES_EFFECT pauses an ACTIVE channel that
has a pause reason, and ABORT_REPORT stops an aborting one as ABORTED when WB is 0, or asks for its write-back when WB is 1; the FIFO is emptied.
R136: RESIDUAL_CLEAR, when the last residual work of a channel is over, clears RESIDUAL, and a LOADING channel whose fetch waited places it. -/
def Obligations.ChannelOwnStepsSettle : Prop :=
  (∀ (s : State) (n : ChanNo) (w : Work), s.resetAsserted = false → (s.chan n).work = some w → (s.chan n).ended = none →
    s.dataOutstanding n = false → s.beatOf n = false →
    ((s.chan n).state = .active → (s.chan n).pauses.any = true → (s.chan n).aborting = false →
      ∃ t, exec (.channelPauseTakesEffect n) s = .next t ∧ t.chan n = { s.chan n with state := .paused } ∧
        unchangedBut [.chan n] s t) ∧
    ((s.chan n).aborting = true → w.wb = false →
      ∃ t, exec (.abortReport n) s = .next t ∧ t.chan n = stoppedChan (s.chan n) .aborted ∧
        t.events = withEvent s.events (.stop n) ∧ unchangedBut [.chan n, .events] s t) ∧
    ((s.chan n).aborting = true → w.wb = true → s.isReady (bankOf (descWord (s.chan n).desc)) = true →
      ∃ t, exec (.abortReport n) s = .next t ∧ t.chan n = { s.chan n with fifo := [], ended := some .aborted } ∧
        (∀ c, t.arb c = withRequest n
          { kind := .writeback n, addr := descWord (s.chan n).desc, words := 1 } c (s.arb c)) ∧
        unchangedBut ([.chan n] ++ allArbs) s t)) ∧
  (∀ (s : State) (n : ChanNo), s.resetAsserted = false → (s.chan n).residual = true →
    (∀ b, (s.bank b).op.any (fun o => o.kind.channel == some n && o.residual) = false) →
    s.stream.beat.any (fun x => x.ch == n && x.residual) = false →
    ((s.chan n).state ≠ .loading →
      ∃ t, exec (.residualClear n) s = .next t ∧ t.chan n = { s.chan n with residual := false } ∧
        unchangedBut [.chan n] s t) ∧
    ((s.chan n).state = .loading → (∀ c, (s.arb c).ch.get n = none) →
      (∀ b, (s.bank b).op.any (fun o => o.kind == .fetch n) = false) → s.isReady (bankOf (descWord (s.chan n).desc)) = true →
      ∃ t, exec (.residualClear n) s = .next t ∧ t.chan n = { s.chan n with residual := false } ∧
        (∀ c, t.arb c = withRequest n { kind := .fetch n, addr := descWord (s.chan n).desc, words := 4 } c (s.arb c)) ∧
        unchangedBut ([.chan n] ++ allArbs) s t))

/-! ### Banks: refresh, wake, sleep, switch-off (chapters 1, 3 and 10) -/

/-- R54, R55, R58: REFRESH_COMPLETE with no switch-off waiting lowers the balance by 1 and moves the cursor on by 1, and then over `k` groups that
need no refresh, each lowering the balance by 1, until the cursor rests on a group that needs refresh or the balance is −4. With a switch-off
waiting the balance and the cursor become 0 in place of that, and nothing is skipped (that the bank's going OFF is a row of its own,
DEFERRED_SWITCH_OFF, is log entry 2). -/
def Obligations.RefreshSettlesAndSkips : Prop :=
  ∀ (s : State) (b : BankNo) (o : Op), s.atRest → (s.bank b).op = some o → o.kind = .refresh → s.isReady b = true →
    ((s.bank b).offWaiting = false → -3 ≤ (s.account b).balance →
      ∃ (t : State) (k : Nat), exec (.refreshComplete b) s = .next t ∧
        t.account b = { balance := (s.account b).balance - 1 - k
                        cursor := (s.account b).cursor + 1#8 + BitVec.ofNat 8 k } ∧
        (∀ j < k, s.needsRefresh (globalGroup b ((s.account b).cursor + 1#8 + BitVec.ofNat 8 j)) = false) ∧
        (t.account b).balance ≥ -4 ∧
        (s.needsRefresh (t.cursorGroup b) = true ∨ (t.account b).balance = -4) ∧
        t.bank b = { s.bank b with op := none } ∧ unchangedBut [.bank b, .account b] s t) ∧
    ((s.bank b).offWaiting = true →
      ∃ t, exec (.refreshComplete b) s = .next t ∧ t.account b = { balance := 0, cursor := 0#8 } ∧
        t.bank b = { s.bank b with op := none } ∧ unchangedBut [.bank b, .account b] s t)

/-- R13, R6, R57, R20, R60: CLOSE_COMPLETE leaves the bank free. WAKE_COMPLETE makes it READY with no open row, a streak count of 0, balance and
cursor 0 where group 0 needs refresh, −4 and 4 where groups 0 to 3 need none, and raises BANK_READY. SELF_REFRESH_EXIT_COMPLETE makes it READY
with a balance of +4 and the cursor kept, where the group at the cursor needs refresh, and counts it settled. Two points are the model's choices:
the settle count is cleared on coming up (log entry 23), and −4 and 4 hold also where group 0 is FILL_PENDING and about to be taken up (log entry
20). -/
def Obligations.BanksComeUp : Prop :=
  ∀ (s : State) (b : BankNo) (o : Op), s.atRest → (s.bank b).op = some o →
    let up : Bank := { s.bank b with state := .ready, settle := 0, openRow := none, holdTimer := none, op := none }
    (o.kind = .close →
      ∃ t, exec (.closeComplete b) s = .next t ∧ t.bank b = { s.bank b with op := none } ∧ unchangedBut [.bank b] s t) ∧
    (o.kind = .wake →
      ∃ t, exec (.wakeComplete b) s = .next t ∧ t.bank b = up ∧ t.arb b = { s.arb b with streak := 0 } ∧
        t.events = withEvent s.events .bankReady ∧
        (s.needsRefresh (globalGroup b 0#8) = true → t.account b = { balance := 0, cursor := 0#8 }) ∧
        ((∀ k < 4, s.needsRefresh (b.val * 256 + k) = false) → t.account b = { balance := -4, cursor := 4#8 }) ∧
        unchangedBut [.bank b, .arb b, .account b, .events] s t) ∧
    (o.kind = .selfRefreshExit → s.needsRefresh (s.cursorGroup b) = true →
      ∃ t, exec (.selfRefreshExitComplete b) s = .next t ∧ t.bank b = up ∧ t.arb b = { s.arb b with streak := 0 } ∧
        t.account b = { balance := 4, cursor := (s.account b).cursor } ∧
        t.retention = { s.retention with unsettled := s.retention.unsettled - 1 } ∧
        unchangedBut [.bank b, .arb b, .account b, .retention] s t)

/-- R19, R59, R170: SELF_REFRESH_ENTRY_COMPLETE leaves the bank RETAINED with its account held. POWER_DOWN_COMPLETE leaves it DORMANT with a
balance of 0, the cursor held, and its words lost (all zero in the model: log entry 11, the model's choice), no word of another bank changed. Each
counts the bank settled. -/
def Obligations.BanksGoToSleep : Prop :=
  ∀ (s : State) (b : BankNo) (o : Op), s.atRest → s.tablesWf → (s.bank b).op = some o →
    (o.kind = .selfRefreshEntry →
      ∃ t, exec (.selfRefreshEntryComplete b) s = .next t ∧ t.bank b = { s.bank b with state := .retained, op := none } ∧
        t.retention = { s.retention with unsettled := s.retention.unsettled - 1 } ∧
        unchangedBut [.bank b, .retention] s t) ∧
    (o.kind = .powerDown →
      ∃ t, exec (.powerDownComplete b) s = .next t ∧ t.bank b = { s.bank b with state := .dormant, op := none } ∧
        t.account b = { balance := 0, cursor := (s.account b).cursor } ∧
        (∀ w, bankOf w ≠ b → t.word w = s.word w) ∧ (∀ w, bankOf w = b → t.word w = blankWord) ∧
        t.retention = { s.retention with unsettled := s.retention.unsettled - 1 } ∧
        unchangedBut [.bank b, .account b, .array, .retention] s t)

/-- R5, R6, R8, R18, R19, R58, R59, R74, R75, R93: WAKE_START begins WAKE at a bank in INIT with a settle count of 8. At a READY and free bank
DEFERRED_SWITCH_OFF takes it to OFF with balance and cursor 0, and RETENTION_ORDER_START begins the ordered ENTRY or POWER-DOWN, the open row
closing first, with balance and cursor held. A request pending there, alone, is answered NOT_READY: its requester is turned away with BANK_STATE.
That the settle count of the OFF bank is 0 is log entry 23, and that its words stay as found log entry 11: the model's choices. -/
def Obligations.WaitingBankWorkBegins : Prop :=
  ∀ (s : State) (b : BankNo), s.resetAsserted = false →
    ((s.bank b).state = .init → (s.bank b).op = none → 8 ≤ (s.bank b).settle →
      ∃ t o, exec (.wakeStart b) s = .next t ∧ o.kind = .wake ∧ o.elapsed = 0 ∧
        o.periods = 8 * (s.timing.tOpen + s.timing.tClose) ∧
        t.bank b = { s.bank b with openRow := none, holdTimer := none, op := some o } ∧
        t.arb b = afterClose (s.bank b) (s.arb b) ∧ unchangedBut [.bank b, .arb b] s t) ∧
    (s.isFree b = true → (s.bank b).offWaiting = true →
      let off (t : State) : Prop :=
        t.bank b = resetBank ∧ t.account b = { balance := 0, cursor := 0#8 } ∧
          t.retention = (if s.retention.state = .entering then
            { s.retention with unsettled := s.retention.unsettled - 1 } else s.retention)
      (s.noRequests b →
        ∃ t, exec (.deferredSwitchOff b) s = .next t ∧ off t ∧ t.arb b = afterClose (s.bank b) (s.arb b) ∧
          unchangedBut [.bank b, .account b, .arb b, .retention] s t) ∧
      (∀ r q, s.solePending b r q → s.mayBeTurnedAway b r q →
        ∃ t, exec (.deferredSwitchOff b) s = .next t ∧ off t ∧
          t.arb b = afterClose (s.bank b) (withoutRequest r (s.arb b)) ∧
          turnedAway s t r q .bankState [.bank b, .account b, .arb b, .retention])) ∧
    (∀ x, s.isFree b = true → (s.bank b).offWaiting = false → (s.bank b).order = some x →
      let enters (t : State) : Prop :=
        ∃ o, o.kind = (match x with
          | .selfRefreshEntry => OpKind.selfRefreshEntry
          | .powerDown => OpKind.powerDown) ∧ o.elapsed = 0 ∧
        o.periods = (if (s.bank b).openRow.isSome then 2 * s.timing.tClose else s.timing.tClose) ∧
        t.bank b = { s.bank b with
          state := .entering, openRow := none, holdTimer := none, op := some o, order := none }
      (s.noRequests b →
        ∃ t, exec (.retentionOrderStart b) s = .next t ∧ enters t ∧ t.arb b = afterClose (s.bank b) (s.arb b) ∧
          unchangedBut [.bank b, .arb b] s t) ∧
      (∀ r q, s.solePending b r q → s.mayBeTurnedAway b r q →
        ∃ t, exec (.retentionOrderStart b) s = .next t ∧ enters t ∧
          t.arb b = afterClose (s.bank b) (withoutRequest r (s.arb b)) ∧
          turnedAway s t r q .bankState [.bank b, .arb b]))

/-- R30, R31: FILL_ENGINE_TAKE_UP makes the head entry's next group FILLING, its weak count kept, and asks its bank for segment 0. -/
def Obligations.FillEngineTakesUp : Prop :=
  ∀ (s : State) (e : FillEntry) (rest : List FillEntry), s.resetAsserted = false → s.tablesWf → s.fill.held = false →
    s.fill.ending = false → s.fillInFlight = false → s.fill.queue = e :: rest →
    (s.group e.next).state = .fillPending → s.isReady (bankOfGroup e.next) = true →
    ∃ t, exec .fillEngineTakeUp s = .next t ∧ t.group e.next = { s.group e.next with state := .filling } ∧
      (∀ g, g ≠ e.next → t.group g = s.group g) ∧ t.fill = { s.fill with segment := 0, restart := false } ∧
      t.arb (bankOfGroup e.next) = { s.arb (bankOfGroup e.next) with
        fill := some { kind := .fillSegment, addr := groupBase e.next, words := 64 } } ∧
      unchangedBut [.groups, .fill, .arb (bankOfGroup e.next)] s t

/-! ### The bus's own steps (chapter 6) -/

/-- R100, R101, R102, R99: READ_DRAIN_END sends a read whose matching entries have left the queue to the array, or ends it with HERR when its bank
is no longer READY. HELD_WRITE_ACCEPT, with room in the queue, ends a write that fails R99 with HERR, and takes one that passes into the queue as
its last entry, with the armed check bits when it is a full word. R109, R110, R39, R186: COMMAND_BARRIER_END, once the host write queue is empty,
takes the command that COMMAND holds: a QUERY of group ARG answers the group's state and weak count as they now stand; a code that names no
command is refused with ARG. A command written to COMMAND on a free bus behind host writes stores COMMAND, holds the cycle at the barrier, and
changes nothing else. -/
def Obligations.BusWaitsEnd : Prop :=
  (∀ (s : State) (w : WordAddr), s.resetAsserted = false →
    (s.host.cycle = .readDrain w → (∀ e ∈ s.host.queue, e.addr ≠ w) →
      (s.isReady (bankOf w) = true →
        ∃ t, exec .readDrainEnd s = .next t ∧ t.host = { s.host with cycle := .readArray w, busEnd := none } ∧
          t.arb (bankOf w) = { s.arb (bankOf w) with
            host := some { kind := .hostRead, addr := w, words := 1 } } ∧
          unchangedBut [.host, .arb (bankOf w)] s t) ∧
      (s.isReady (bankOf w) = false →
        ∃ t, exec .readDrainEnd s = .next t ∧ t.host = endedPort s.host .error ∧ unchangedBut [.host] s t)) ∧
    (∀ (lanes : BitVec 4) (data : Word), s.host.cycle = .writeHeld w lanes data → s.host.queue.length < 4 →
      (¬s.served w →
        ∃ t, exec .heldWriteAccept s = .next t ∧ t.host = endedPort s.host .error ∧ unchangedBut [.host] s t) ∧
      (s.served w → s.headPlaced = true →
        let takes := s.override.armed = true ∧ lanes = 15#4
        ∃ t, exec .heldWriteAccept s = .next t ∧
          t.host = { queue := s.host.queue ++ [{ addr := w, lanes := lanes, data := data
                                                 mark := if takes then some s.override.check else none }]
                     cycle := .idle, busEnd := some (.ready none) } ∧
          t.override = (if takes then { s.override with armed := false } else s.override) ∧
          unchangedBut [.host, .override] s t))) ∧
  (∀ s : State, s.resetAsserted = false → s.host.cycle = .barrier → s.host.queue = [] →
    (commandCode s.command = 0x05#8 → s.arg.toNat ≤ 1023 →
      ∃ t, exec .commandBarrierEnd s = .next t ∧
        t.cmdStatus = { outcome := .taken, reason := .none, code := 0x05#8
                        resultState := (s.group s.arg.toNat).state, resultWeak := (s.group s.arg.toNat).weak } ∧
        t.host = endedPort s.host (.ready none) ∧ unchangedBut [.cmdStatus, .host] s t) ∧
    (commandCode s.command ∉ commandCodes →
      ∃ t, exec .commandBarrierEnd s = .next t ∧ commandRefused s t s.command .arg)) ∧
  (∀ (s : State) (c : Instr) (w : Word), s.busFree → s.host.queue ≠ [] → commandWordOf c = some w →
    exec c s = .next { s with command := w, host := { s.host with cycle := .barrier, busEnd := none } })

/-! ### The retention controller (chapter 10) -/

/-- R165, R168, R169, R35, R95, R75, R102, R114, R135, R166: QUIESCE_COMPLETE, with no read and no held write of the bus about to go on, with INT
asserted goes to DENIED, raises RET_DENIED and releases the fill engine and the scrubber; RETENTION is removed from every channel that holds it:
one with HOST or UNOWNED keeps those and stays as it is, and one PAUSED with RETENTION alone (a single one: the order among several is free, log
entry 9) goes to LOADING and fetches afresh, or, with a descriptor installed, to ACTIVE with its next request (R135, R166); with INT not asserted
it commits: ENTERING, each READY bank ordered, a free one at once: SELF-REFRESH ENTRY where a group is KEEP, FILL_PENDING or FILLING, POWER-DOWN
where none is. A request pending at that bank, alone, is answered NOT_READY: its requester is turned away with BANK_STATE. While a read may leave
READ_DRAIN, or a held write has room, nothing happens. -/
def Obligations.QuiesceEndsInDeniedOrEntering : Prop :=
  ∀ s : State, s.resetAsserted = false → s.retention.state = .quiescing →
    (∀ n, (s.chan n).state ≠ .loading ∧ (s.chan n).state ≠ .active) → s.fillInFlight = false → s.host.queue = [] →
    (∀ b, (s.bank b).state ≠ .init) →
    ((∃ w, s.host.cycle = .readDrain w ∨ ∃ lanes data, s.host.cycle = .writeHeld w lanes data) →
      exec .quiesceComplete s = .next s) ∧
    ((s.host.cycle = .idle ∨ s.host.cycle = .barrier ∨ ∃ w, s.host.cycle = .readArray w) →
      (s.int = true → s.noneRetained → s.fill.queue = [] → s.scrub.credits = 0 → s.scrubInFlight = false → s.portQuiet →
        ∃ t, exec .quiesceComplete s = .next t ∧ t.retention = { s.retention with state := .denied } ∧
          t.fill = { s.fill with held := false } ∧
          t.scrub = { s.scrub with state := if s.scrub.state = .held then .idle else s.scrub.state } ∧
          t.events = withEvent s.events .retDenied ∧ unchangedBut [.retention, .fill, .scrub, .events] s t) ∧
      (∀ n, s.int = true → s.mayBeLifted n → s.fill.queue = [] → s.scrub.credits = 0 → s.scrubInFlight = false →
        ∃ t, exec .quiesceComplete s = .next t ∧ t.retention = { s.retention with state := .denied } ∧
          t.fill = { s.fill with held := false } ∧
          t.scrub = { s.scrub with state := if s.scrub.state = .held then .idle else s.scrub.state } ∧
          t.events = withEvent s.events .retDenied ∧ retentionLifted s t n ∧
          unchangedBut ([.retention, .fill, .scrub, .events] ++ allChans ++ allArbs) s t) ∧
      (∀ b, s.int = false → (∀ c, c ≠ b → s.noRequests c) → s.isFree b = true → (s.bank b).offWaiting = false →
        (∀ c, c ≠ b → s.isReady c = false) →
        let enters (t : State) : Prop :=
          t.retention = { s.retention with state := .entering, unsettled := 1 } ∧
            ∃ o, o.kind = (if s.holdsData b = true then OpKind.selfRefreshEntry else OpKind.powerDown) ∧
              t.bank b = { s.bank b with
                state := .entering, openRow := none, holdTimer := none, op := some o, order := none }
        (s.noRequests b →
          ∃ t, exec .quiesceComplete s = .next t ∧ enters t ∧ t.arb b = afterClose (s.bank b) (s.arb b) ∧
            unchangedBut [.retention, .bank b, .arb b] s t) ∧
        (∀ r q, s.solePending b r q → s.mayBeTurnedAway b r q →
          ∃ t, exec .quiesceComplete s = .next t ∧ enters t ∧
            t.arb b = afterClose (s.bank b) (withoutRequest r (s.arb b)) ∧
            turnedAway s t r q .bankState [.retention, .bank b, .arb b])))

/-- R170, R171, R172, R20: RETENTION_SETTLED goes to RETAINED, and with RET_REQ low on to WAKING: each RETAINED bank begins its EXIT of T_SRX
periods and is counted in UNSETTLED, each DORMANT bank goes to INIT with settle count, balance and cursor 0. -/
def Obligations.SettledBanksSleepOrWake : Prop :=
  ∀ s : State, s.resetAsserted = false → s.retention.state = .entering → s.retention.unsettled = 0 →
    (s.retention.req = true →
      exec .retentionSettled s = .next { s with retention := { s.retention with state := .retained } }) ∧
    (s.retention.req = false → ∃ t, exec .retentionSettled s = .next t ∧ banksWoken s t)

/-- R173, R35, R30, R95, R166: WAKING_COMPLETE goes to NORMAL, releases the fill engine and the scrubber, and raises RET_EXIT; the released engine
asks for the current segment of a FILLING group. RETENTION is removed from every channel that holds it: one with HOST or UNOWNED keeps those and
stays as it is, and one PAUSED with RETENTION alone (a single one: the order among several is free, log entry 9) goes to LOADING and fetches
afresh, or, with a descriptor installed, to ACTIVE with its next request (R135). With RET_REQ high it goes on to QUIESCING at once, with both held
again: a FILL_PENDING group at the head of the queue, in a READY bank, is taken up by the release and so is FILLING when it is held, its request
withdrawn before any grant (log entry 25). -/
def Obligations.WakingEndsInService : Prop :=
  ∀ s : State, s.resetAsserted = false → s.retention.state = .waking → s.retention.unsettled = 0 →
    s.scrub.credits = 0 → s.scrubInFlight = false → s.portQuiet →
    let served (t : State) : Prop :=
      t.retention = { s.retention with state := .normal } ∧ t.events = withEvent s.events .retExit ∧
        t.fill = { s.fill with held := false } ∧
        t.scrub = { s.scrub with state := if s.scrub.state = .held then .idle else s.scrub.state }
    let heldAgain (t : State) : Prop :=
      t.retention = { s.retention with state := .quiescing } ∧ t.events = withEvent s.events .retExit ∧
        t.scrub = { s.scrub with state := .held } ∧ ∀ b, t.arb b = { s.arb b with fill := none, scrub := none }
    (∀ n, s.retention.req = false → s.fill.queue = [] → s.mayBeLifted n →
      ∃ t, exec .wakingComplete s = .next t ∧ served t ∧ retentionLifted s t n ∧
        unchangedBut ([.retention, .fill, .scrub, .events] ++ allChans ++ allArbs) s t) ∧
    (s.noneRetained → s.retention.req = false → s.fill.queue = [] →
      ∃ t, exec .wakingComplete s = .next t ∧ served t ∧ unchangedBut [.retention, .fill, .scrub, .events] s t) ∧
    (∀ e rest, s.noneRetained → s.retention.req = false → s.fill.queue = e :: rest → s.fill.held = true →
      s.fillInFlight = false → (s.group e.next).state = .filling → s.isReady (bankOfGroup e.next) = true →
      ∃ t, exec .wakingComplete s = .next t ∧ served t ∧
        t.arb (bankOfGroup e.next) = { s.arb (bankOfGroup e.next) with
          fill := some { kind := .fillSegment, addr := fillSegmentBase e.next s.fill.segment, words := 64 } } ∧
        unchangedBut [.retention, .fill, .scrub, .events, .arb (bankOfGroup e.next)] s t) ∧
    (s.noneRetained → s.retention.req = true → (∀ n, (s.chan n).state = .idle ∨ (s.chan n).state = .halted) →
      (s.fill.queue = [] →
        ∃ t, exec .wakingComplete s = .next t ∧ heldAgain t ∧ t.fill = { s.fill with held := true } ∧
          unchangedBut ([.retention, .fill, .scrub, .events] ++ allArbs) s t) ∧
      (∀ e rest, s.tablesWf → s.fill.queue = e :: rest → s.fill.held = true → s.fill.ending = false →
        s.fillInFlight = false → (s.group e.next).state = .fillPending → s.isReady (bankOfGroup e.next) = true →
        ∃ t, exec .wakingComplete s = .next t ∧ heldAgain t ∧
          t.group e.next = { s.group e.next with state := .filling } ∧ (∀ g, g ≠ e.next → t.group g = s.group g) ∧
          t.fill = { s.fill with segment := 0, restart := false, held := true } ∧
          unchangedBut ([.retention, .fill, .scrub, .events, .groups] ++ allArbs) s t))

/-- R164, R166, R134, R35, R95: RET_REQ_RISE in NORMAL goes to QUIESCING: each LOADING, PAUSED or ACTIVE channel takes the reason RETENTION; of an
ACTIVE channel for which it is the first reason a pending data request is withdrawn, and the channel is PAUSED at once when its descriptor has not
ended (log entry 14) and it has no data operation in flight and no beat in progress; the fill engine and the scrubber are held and their requests
withdrawn; in any other state only the level changes. R167, R168, R171, R172, R20: RET_REQ_FALL in QUIESCING and in DENIED goes to NORMAL,
QUIESCING releasing what it held: RETENTION is removed from every channel that holds it: one with HOST or UNOWNED keeps those and stays as it is,
and one PAUSED with RETENTION alone (a single one: the order among several is free, log entry 9) goes to LOADING and fetches afresh, or, with a
descriptor installed, to ACTIVE with its next request (R135); in RETAINED it goes to WAKING, with every RETAINED and DORMANT bank woken; in
ENTERING and WAKING only the level changes. -/
def Obligations.RetReqMovesTheController : Prop :=
  ∀ s : State, s.atRest →
    (s.retention.req = false → s.retention.state = .normal → (∀ n, (s.chan n).state = .active → s.oneRequest n) →
      ∃ t, exec .retReqRise s = .next t ∧ t.retention = { s.retention with state := .quiescing, req := true } ∧
        (∀ n, (s.chan n).state = .loading ∨ (s.chan n).state = .paused ∨ (s.chan n).state = .active →
          t.chan n = { s.chan n with
            state := if s.pausesAtOnce n then .paused else (s.chan n).state
            pauses := { (s.chan n).pauses with retention := true } }) ∧
        (∀ n, (s.chan n).state = .idle ∨ (s.chan n).state = .halted → t.chan n = s.chan n) ∧
        t.fill = { s.fill with held := true } ∧ t.scrub = { s.scrub with state := .held } ∧
        (∀ b, t.arb b = { s.arb b with fill := none, scrub := none, ch := (t.arb b).ch } ∧
          ∀ n, (t.arb b).ch.get n = s.requestLeft n b) ∧
        unchangedBut ([.retention, .fill, .scrub] ++ allChans ++ allArbs) s t) ∧
    (s.retention.req = false → s.retention.state ≠ .normal →
      exec .retReqRise s = .next { s with retention := { s.retention with req := true } }) ∧
    (s.retention.req = true → s.retention.state = .quiescing → s.noneRetained → s.fill.queue = [] →
      s.scrub.credits = 0 → s.scrubInFlight = false → s.portQuiet →
      ∃ t, exec .retReqFall s = .next t ∧ t.retention = { s.retention with state := .normal, req := false } ∧
        t.fill = { s.fill with held := false } ∧
        t.scrub = { s.scrub with state := if s.scrub.state = .held then .idle else s.scrub.state } ∧
        unchangedBut [.retention, .fill, .scrub] s t) ∧
    (∀ n, s.retention.req = true → s.retention.state = .quiescing → s.mayBeLifted n → s.fill.queue = [] →
      s.scrub.credits = 0 → s.scrubInFlight = false →
      ∃ t, exec .retReqFall s = .next t ∧ t.retention = { s.retention with state := .normal, req := false } ∧
        t.fill = { s.fill with held := false } ∧
        t.scrub = { s.scrub with state := if s.scrub.state = .held then .idle else s.scrub.state } ∧
        retentionLifted s t n ∧ unchangedBut ([.retention, .fill, .scrub] ++ allChans ++ allArbs) s t) ∧
    (s.retention.req = true → s.retention.state = .denied →
      exec .retReqFall s = .next { s with retention := { s.retention with state := .normal, req := false } }) ∧
    (s.retention.req = true → s.retention.state = .retained → ∃ t, exec .retReqFall s = .next t ∧ banksWoken s t) ∧
    (s.retention.req = true → (s.retention.state = .entering ∨ s.retention.state = .waking) →
      exec .retReqFall s = .next { s with retention := { s.retention with req := false } })

/-! ### The host bus: the memory window (chapter 6) -/

/-- R97, R99, R100, R101: MEMORY_READ on a free bus. A word that fails R99 ends the cycle with HERR. One that passes, with no queue entry for it,
is asked of its bank; the newest matching entry answers it with HRDY and its data when it is a full word, and holds the cycle in READ_DRAIN when
it is not. DOUBLE_SELECT ends the cycle with HERR. -/
def Obligations.MemoryReadMeetsTheQueue : Prop :=
  ∀ (s : State) (w : WordAddr), s.busFree →
    (∃ t, exec .doubleSelect s = .next t ∧ t.host = endedPort s.host .error ∧ unchangedBut [.host] s t) ∧
    (¬s.served w →
      ∃ t, exec (.memoryRead w) s = .next t ∧ t.host = endedPort s.host .error ∧ unchangedBut [.host] s t) ∧
    (s.served w → (∀ e ∈ s.host.queue, e.addr ≠ w) →
      ∃ t, exec (.memoryRead w) s = .next t ∧ t.host = { s.host with cycle := .readArray w, busEnd := none } ∧
        t.arb (bankOf w) = { s.arb (bankOf w) with host := some { kind := .hostRead, addr := w, words := 1 } } ∧
        unchangedBut [.host, .arb (bankOf w)] s t) ∧
    (∀ older e newer, s.served w → s.host.queue = older ++ e :: newer → e.addr = w → (∀ f ∈ newer, f.addr ≠ w) →
      (e.lanes = 15#4 →
        ∃ t, exec (.memoryRead w) s = .next t ∧ t.host = endedPort s.host (.ready (some e.data)) ∧
          unchangedBut [.host] s t) ∧
      (e.lanes ≠ 15#4 →
        ∃ t, exec (.memoryRead w) s = .next t ∧ t.host = { s.host with cycle := .readDrain w, busEnd := none } ∧
          unchangedBut [.host] s t))

/-- R102, R89, R99, R104: MEMORY_WRITE on a free bus. With no byte enable set it ends with HRDY and nothing else; with a full queue it is held; a
word that fails R99 ends it with HERR. Else it is accepted: HRDY, one queue entry, the armed check bits taken by a full word, and, as the queue's
only entry, its WRITE or MERGE asked of its bank. -/
def Obligations.MemoryWriteIsPosted : Prop :=
  ∀ (s : State) (w : WordAddr) (lanes : BitVec 4) (data : Word), s.busFree →
    (lanes = 0#4 →
      ∃ t, exec (.memoryWrite w lanes data) s = .next t ∧ t.host = endedPort s.host (.ready none) ∧
        unchangedBut [.host] s t) ∧
    (lanes ≠ 0#4 → s.host.queue.length = 4 →
      ∃ t, exec (.memoryWrite w lanes data) s = .next t ∧
        t.host = { s.host with cycle := .writeHeld w lanes data, busEnd := none } ∧ unchangedBut [.host] s t) ∧
    (lanes ≠ 0#4 → s.host.queue.length < 4 → ¬s.served w →
      ∃ t, exec (.memoryWrite w lanes data) s = .next t ∧ t.host = endedPort s.host .error ∧
        unchangedBut [.host] s t) ∧
    (lanes ≠ 0#4 → s.served w → s.host.queue = [] → s.headPlaced = false → (s.arb (bankOf w)).host = none →
      let takes := s.override.armed = true ∧ lanes = 15#4
      ∃ t, exec (.memoryWrite w lanes data) s = .next t ∧
        t.host = { queue := [{ addr := w, lanes := lanes, data := data
                               mark := if takes then some s.override.check else none }]
                   cycle := .idle, busEnd := some (.ready none) } ∧
        t.override = (if takes then { s.override with armed := false } else s.override) ∧
        t.arb (bankOf w) = { s.arb (bankOf w) with
          host := some { kind := if lanes = 15#4 then .hostWrite else .hostMerge, addr := w, words := 1 } } ∧
        unchangedBut [.host, .override, .arb (bankOf w)] s t)

/-! ### The host bus: the registers (chapters 6 and 12) -/

/-- R111: the ID register reads 0x51582601 in every state, and a write to it changes nothing but the bus's own record of the cycle's end. -/
def Obligations.IdIsConstant : Prop :=
  (∀ s : State, s.registerRead 0#6 = 0x51582601#32) ∧
  (∀ (s : State) (x : Word), s.busFree →
    ∃ t, exec (.registerWrite 0#6 x) s = .next t ∧ t.host = endedPort s.host (.ready none) ∧ unchangedBut [.host] s t)

/-- R107, R108: REGISTER_WRITE stores ARG at its offset, and at the offset of a read-only register or of no register it stores nothing. Either
ends with HRDY. -/
def Obligations.RegisterWriteStoresArg : Prop :=
  ∀ (s : State) (reg : BitVec 6) (x : Word), s.busFree → (Instr.registerWrite reg x).wellFormed = true →
    ∃ t, exec (.registerWrite reg x) s = .next t ∧ t.host = endedPort s.host (.ready none) ∧
      t.arg = (if reg = 4#6 then x else s.arg) ∧ (reg = 4#6 → t.registerRead reg = x) ∧ unchangedBut [.host, .arg] s t

/-- R43: CONFIG_WRITE stores the fields of CONFIG. A TICKDIV that differs from the one held restarts the tick timer from zero, so that its next
tick comes one full new period on, with no tick fired; the TICKDIV already held leaves the timer counting. No balance, cursor, settle count or
credit changes. -/
def Obligations.TickdivChangeRestartsTheTimer : Prop :=
  ∀ (s : State) (x : Word), s.busFree →
    ∃ t, exec (.configWrite x) s = .next t ∧
      t.config = { tickdiv := x.extractLsb' 0 8, hold := x.extractLsb' 8 6, cwb := x.getLsbD 15
                   weakThreshold := x.extractLsb' 16 4, scrubRate := min 8 (x.extractLsb' 20 4).toNat } ∧
      (x.extractLsb' 0 8 ≠ s.config.tickdiv → t.tick = { s.tick with count := 0 }) ∧
      (x.extractLsb' 0 8 = s.config.tickdiv → t.tick = s.tick) ∧
      (∀ k, ({ t with tick := { running := true, count := k } } : State).timeUp .tick =
        decide (64 * max 1 (x.extractLsb' 0 8).toNat ≤ k)) ∧
      t.host = endedPort s.host (.ready none) ∧ unchangedBut [.config, .tick, .host] s t

/-- R2, R22: CONFIG2_WRITE changes the FITTED flag of a bank that is OFF, and keeps that of any other; the timing fields are stored, each brought
into its range. Pin reset sets every flag, and soft reset leaves them as they are. -/
def Obligations.FittedChangesOnlyWhenOff : Prop :=
  (∀ (s : State) (x : Word), s.busFree →
    ∃ t, exec (.config2Write x) s = .next t ∧
      (∀ b, t.fitted.get b = if (s.bank b).state = .off then x.getLsbD b.val else s.fitted.get b) ∧
      t.timing = { tOpen := max 2 (x.extractLsb' 4 4).toNat
                   tCol := max 1 (min 4 (x.extractLsb' 8 3).toNat)
                   tClose := max 2 (x.extractLsb' 12 4).toNat
                   tRef := max 4 (x.extractLsb' 16 6).toNat
                   tSrx := max 16 (x.extractLsb' 22 10).toNat } ∧
      t.host = endedPort s.host (.ready none) ∧ unchangedBut [.fitted, .timing, .host] s t) ∧
  (∀ s : State, ∃ t, exec .pinReset s = .next t ∧ ∀ b, t.fitted.get b = true) ∧
  (∀ (s : State) (u : BitVec 24), s.commandReady → ∃ t, exec (.softReset u) s = .next t ∧ t.fitted = s.fitted)

/-- R88: CHECK_OVERRIDE_WRITE stores ARMED and CHECK as written, and a read shows both. The latch is disarmed when a host write takes it; soft
reset clears ARMED and leaves CHECK; pin reset clears both. -/
def Obligations.CheckOverrideLatch : Prop :=
  (∀ (s : State) (x : Word), s.busFree →
    ∃ t, exec (.checkOverrideWrite x) s = .next t ∧ t.override = { armed := x.getLsbD 31, check := x.setWidth 7 } ∧
      t.registerRead 0x0B#6 = x &&& 0x8000007F#32 ∧ t.host = endedPort s.host (.ready none) ∧
      unchangedBut [.override, .host] s t) ∧
  (∀ (s : State) (w : WordAddr) (data : Word), s.busFree → s.served w → s.host.queue = [] → s.override.armed = true →
    ∃ t, exec (.memoryWrite w 15#4 data) s = .next t ∧ t.override = { s.override with armed := false }) ∧
  (∀ (s : State) (u : BitVec 24), s.commandReady → s.inService = true →
    ∃ t, exec (.softReset u) s = .next t ∧ t.override = { s.override with armed := false }) ∧
  (∀ s : State, ∃ t, exec .pinReset s = .next t ∧ t.override = { armed := false, check := 0#7 })

/-- R144, R107: FENCE_WRITE stores FENCE_LIMIT or FENCE_BASE of a channel that is IDLE or HALTED with RESIDUAL clear, bits 23:2 of the word; on
any other channel it stores nothing and raises REFUSED. -/
def Obligations.FencesChangeOnlyAtRest : Prop :=
  ∀ (s : State) (n : ChanNo) (limit : Bool) (x : Word), s.busFree →
    (((s.chan n).state = .idle ∨ (s.chan n).state = .halted) ∧ (s.chan n).residual = false →
      ∃ t, exec (.fenceWrite n limit x) s = .next t ∧
        t.chan n = (if limit then { s.chan n with fenceLimit := x.extractLsb' 2 22 }
          else { s.chan n with fenceBase := x.extractLsb' 2 22 }) ∧
        t.registerRead (BitVec.ofNat 6 (32 + 8 * n.val + if limit then 5 else 4)) = x &&& 0x00FFFFFC#32 ∧
        t.host = endedPort s.host (.ready none) ∧ unchangedBut [.chan n, .host] s t) ∧
    (¬(((s.chan n).state = .idle ∨ (s.chan n).state = .halted) ∧ (s.chan n).residual = false) →
      ∃ t, exec (.fenceWrite n limit x) s = .next t ∧ t.events = withEvent s.events .refused ∧
        t.host = endedPort s.host (.ready none) ∧ unchangedBut [.events, .host] s t)

/-- R182, R183: EVENT_FLAGS_WRITE clears the flags written 1 and no other, LOG showing the log's being non-empty whatever is written;
EVENT_ENABLE_WRITE stores the enables. INT is asserted exactly when a flag and its enable are both set. -/
def Obligations.EventFlagsAndInt : Prop :=
  ∀ (s : State) (x : Word), s.busFree →
    (∃ t, exec (.eventFlagsWrite x) s = .next t ∧
      (∀ i < 17, i ≠ 8 → t.eventFlags.getLsbD i = (s.eventFlags.getLsbD i && !x.getLsbD i)) ∧
      (s.events.sticky.getLsbD 8 = false → t.eventFlags.getLsbD 8 = !s.log.records.isEmpty) ∧
      t.events.enable = s.events.enable ∧ (t.int = true ↔ ∃ i < 17, t.eventFlags.getLsbD i = true ∧ t.events.enable.getLsbD i = true) ∧
      t.host = endedPort s.host (.ready none) ∧ unchangedBut [.events, .host] s t) ∧
    (∃ t, exec (.eventEnableWrite x) s = .next t ∧ t.events = { s.events with enable := x.setWidth 17 } ∧
      (t.int = true ↔ ∃ i < 17, s.eventFlags.getLsbD i = true ∧ x.getLsbD i = true) ∧
      t.host = endedPort s.host (.ready none) ∧ unchangedBut [.events, .host] s t)

/-! ### Commands (chapters 1, 2, 8, 11 and 12) -/

/-- R4, R57: BANK_ON of a fitted bank that is OFF takes it to INIT with settle count, balance and cursor 0; it is refused with ARG for an unfitted
bank and with STATE for a bank that is not OFF. R7, R8, R55, R58: BANK_OFF of a bank whose groups are all DISCARD or LAPSED makes the LAPSED ones
DISCARD and takes the bank to OFF, at once when it is in INIT or free, and waits for the operation of an operating one, whose cursor skips to a
balance of −4 unless a REFRESH is in flight. It is refused with STATE for a bank that holds data, or is neither INIT nor READY, or is switching
off. Either command is refused with ARG above 3. The settle count of 0 of the OFF bank is log entry 23, and that its words stay as found log entry
11: the model's choices. -/
def Obligations.BankOnAndOff : Prop :=
  (∀ (s : State) (u : BitVec 24), s.commandReady → 3 < s.arg.toNat →
    (∃ t, exec (.bankOn u) s = .next t ∧ commandRefused s t (commandWord u 0x01#8) .arg) ∧
    ∃ t, exec (.bankOff u) s = .next t ∧ commandRefused s t (commandWord u 0x02#8) .arg) ∧
  (∀ (s : State) (u : BitVec 24) (b : BankNo), s.commandReady → s.arg = BitVec.ofNat 32 b.val →
    let spent : Prop :=
      ∀ k < 256, (s.group (b.val * 256 + k)).state = .discard ∨ (s.group (b.val * 256 + k)).state = .lapsed
    let discarded (t : State) : Prop :=
      ∀ g, t.group g = if g / 256 = b.val ∧ (s.group g).state = .lapsed then { state := .discard, weak := 0 }
        else s.group g
    (s.fitted.get b = true → s.inService = true → (s.bank b).state = .off →
      ∃ t, exec (.bankOn u) s = .next t ∧ commandTaken s t (commandWord u 0x01#8) ∧
        t.bank b = { s.bank b with state := .init, settle := 0 } ∧ t.account b = { balance := 0, cursor := 0#8 } ∧
        unchangedBut [.bank b, .account b, .command, .cmdStatus, .host] s t) ∧
    (s.fitted.get b = false →
      ∃ t, exec (.bankOn u) s = .next t ∧ commandRefused s t (commandWord u 0x01#8) .arg) ∧
    (s.fitted.get b = true → s.inService = true → (s.bank b).state ≠ .off →
      ∃ t, exec (.bankOn u) s = .next t ∧ commandRefused s t (commandWord u 0x01#8) .state) ∧
    (s.tablesWf → s.inService = true → spent → ((s.bank b).state = .init ∨ s.isFree b = true) →
      (s.bank b).offWaiting = false → s.noRequests b →
      ∃ t, exec (.bankOff u) s = .next t ∧ commandTaken s t (commandWord u 0x02#8) ∧ t.bank b = resetBank ∧
        t.account b = { balance := 0, cursor := 0#8 } ∧ t.arb b = afterClose (s.bank b) (s.arb b) ∧ discarded t ∧
        unchangedBut [.bank b, .account b, .arb b, .groups, .command, .cmdStatus, .host] s t) ∧
    (∀ o, s.tablesWf → s.inService = true → spent → s.isReady b = true → (s.bank b).op = some o →
      (s.bank b).offWaiting = false → -4 ≤ (s.account b).balance → (s.account b).balance ≤ 8 →
      ∃ t, exec (.bankOff u) s = .next t ∧ commandTaken s t (commandWord u 0x02#8) ∧
        t.bank b = { s.bank b with offWaiting := true } ∧ discarded t ∧
        t.account b = (if o.kind = .refresh then s.account b
          else { balance := -4
                 cursor := (s.account b).cursor + BitVec.ofNat 8 ((s.account b).balance + 4).toNat }) ∧
        unchangedBut [.bank b, .account b, .groups, .command, .cmdStatus, .host] s t) ∧
    (s.inService = true →
      ((∃ k < 256, (s.group (b.val * 256 + k)).state ≠ .discard ∧ (s.group (b.val * 256 + k)).state ≠ .lapsed) ∨
        ((s.bank b).state ≠ .init ∧ (s.bank b).state ≠ .ready) ∨
        ((s.bank b).state = .ready ∧ (s.bank b).offWaiting = true)) →
      ∃ t, exec (.bankOff u) s = .next t ∧ commandRefused s t (commandWord u 0x02#8) .state))

/-- R27, R28: FILL of a run of DISCARD or LAPSED groups in banks in use makes them FILL_PENDING, weak counts kept, and adds one queue entry. R37,
R38, R55: RELEASE of a run with no FILL_PENDING or FILLING group makes its KEEP and LAPSED groups DISCARD with a weak count of 0, and no other
group changes; the account of a bank whose cursor still rests on a group in need of refresh stays. -/
def Obligations.FillAndRelease : Prop :=
  ∀ (s : State) (u : BitVec 24) (first count : Nat), s.commandReady → s.tablesWf → s.inService = true →
    s.arg = BitVec.ofNat 16 count ++ BitVec.ofNat 16 first → 1 ≤ count → first + count ≤ 1024 →
    let inRun (g : Nat) : Prop := first ≤ g ∧ g < first + count
    ((∀ g, inRun g → (s.group g).state = .discard ∨ (s.group g).state = .lapsed) →
      (∀ g, inRun g → s.inUse (bankOfGroup g) = true) → s.fill.queue.length < 8 →
      ∃ t, exec (.fill u) s = .next t ∧ commandTaken s t (commandWord u 0x03#8) ∧
        (∀ g, inRun g → t.group g = { s.group g with state := .fillPending }) ∧
        (∀ g, ¬inRun g → t.group g = s.group g) ∧
        t.fill = { s.fill with queue := s.fill.queue ++ [{ first := first, count := count, next := first }] } ∧
        unchangedBut [.groups, .fill, .command, .cmdStatus, .host] s t) ∧
    ((∀ g, inRun g → (s.group g).state ≠ .fillPending ∧ (s.group g).state ≠ .filling) →
      ∃ t, exec (.release u) s = .next t ∧ commandTaken s t (commandWord u 0x04#8) ∧
        (∀ g, inRun g → (s.group g).state = .keep ∨ (s.group g).state = .lapsed →
          t.group g = { state := .discard, weak := 0 }) ∧
        (∀ g, ¬inRun g ∨ (s.group g).state = .discard → t.group g = s.group g) ∧
        (∀ b, t.needsRefresh (s.cursorGroup b) = true ∨ s.isReady b = false → t.account b = s.account b) ∧
        (∀ b, s.isReady b = true → s.refreshing b = false → -4 ≤ (s.account b).balance →
          t.needsRefresh (t.cursorGroup b) = true ∨ (t.account b).balance = -4) ∧
        unchangedBut ([.groups, .command, .cmdStatus, .host] ++ allAccounts) s t)

/-- R39: QUERY answers the state and the weak count of group ARG in any retention state, and is refused with ARG above 1023. R180: LOG_POP removes
the head record, and is refused with STATE on an empty log. -/
def Obligations.QueryAndLogPop : Prop :=
  ∀ (s : State) (u : BitVec 24), s.commandReady →
    (s.arg.toNat ≤ 1023 →
      ∃ t, exec (.query u) s = .next t ∧ t.command = commandWord u 0x05#8 ∧
        t.cmdStatus = { outcome := .taken, reason := .none, code := 0x05#8
                        resultState := (s.group s.arg.toNat).state, resultWeak := (s.group s.arg.toNat).weak } ∧
        t.host = endedPort s.host (.ready none) ∧ unchangedBut [.command, .cmdStatus, .host] s t) ∧
    (1023 < s.arg.toNat → ∃ t, exec (.query u) s = .next t ∧ commandRefused s t (commandWord u 0x05#8) .arg) ∧
    (∀ r rest, s.log.records = r :: rest →
      ∃ t, exec (.logPop u) s = .next t ∧ commandTaken s t (commandWord u 0x06#8) ∧
        t.log = { s.log with records := rest } ∧ unchangedBut [.log, .command, .cmdStatus, .host] s t) ∧
    (s.log.records = [] → ∃ t, exec (.logPop u) s = .next t ∧ commandRefused s t (commandWord u 0x06#8) .state)

/-- R137, R117, R136: CH_START of an IDLE or HALTED channel loads ARG as its descriptor address, clears STOP and FAULT, and asks for the
descriptor, or waits with that while RESIDUAL is set; at a bank that is not READY it halts at once with BANK_STATE (R74, R145). R138, R134:
CH_PAUSE adds HOST to a LOADING or PAUSED channel and to one that is pausing; of an ACTIVE one it withdraws a pending data request, and pauses it
at once when its descriptor has not ended (log entry 14) and it has no data operation in flight and no beat in progress; else the channel stays
ACTIVE with HOST. It refuses an IDLE or HALTED one with STATE. R139, R135: CH_RESUME removes HOST and UNOWNED: a channel that RETENTION still
holds stays PAUSED, one without a descriptor fetches it, and one with a descriptor goes to ACTIVE and asks for its next request (R121 to R126). -/
def Obligations.ChannelsStartPauseAndResume : Prop :=
  ∀ (s : State) (n : ChanNo) (u : BitVec 22), s.commandReady →
    (∀ d : DescAddr, s.inService = true → s.arg = (0#8 ++ d ++ 0#4 : BitVec 32) →
      ((s.chan n).state = .idle ∨ (s.chan n).state = .halted) → (s.chan n).aborting = false →
      s.isReady (bankOf (descWord d)) = true →
      ∃ t, exec (.chStart n u) s = .next t ∧ commandTaken s t (channelCommandWord u n 0x10#8) ∧
        t.chan n = { s.chan n with state := .loading, stop := .none, fault := .none, desc := d } ∧
        (∀ c, t.arb c = if (s.chan n).residual then s.arb c
          else withRequest n { kind := .fetch n, addr := descWord d, words := 4 } c (s.arb c)) ∧
        unchangedBut ([.chan n, .command, .cmdStatus, .host] ++ allArbs) s t) ∧
    (∀ d : DescAddr, s.inService = true → s.arg = (0#8 ++ d ++ 0#4 : BitVec 32) →
      ((s.chan n).state = .idle ∨ (s.chan n).state = .halted) → (s.chan n).aborting = false →
      (s.chan n).residual = false → (∀ c, (s.arb c).ch.get n = none) → s.chanOp n (fun _ => true) = false →
      s.beatOf n = false → s.isReady (bankOf (descWord d)) = false → s.log.records.length < 8 →
      ∃ t, exec (.chStart n u) s = .next t ∧ commandTaken s t (channelCommandWord u n 0x10#8) ∧
        t.chan n = haltedChan { s.chan n with desc := d } .bankState ∧
        t.log = logged s.log { kind := .channelFault, source := .ch n, addr := none, group := none, syndrome := none,
                               desc := some d, fault := .bankState } ∧
        t.events = withEvent s.events (.stop n) ∧
        unchangedBut [.chan n, .log, .events, .command, .cmdStatus, .host] s t) ∧
    ((s.chan n).aborting = false → ((s.chan n).state = .loading ∨ (s.chan n).state = .paused ∨
        (s.chan n).state = .active ∧ (s.chan n).pauses.any = true) →
      ∃ t, exec (.chPause n u) s = .next t ∧ commandTaken s t (channelCommandWord u n 0x11#8) ∧
        t.chan n = { s.chan n with pauses := { (s.chan n).pauses with host := true } } ∧
        unchangedBut [.chan n, .command, .cmdStatus, .host] s t) ∧
    ((s.chan n).aborting = false → (s.chan n).state = .active → (s.chan n).pauses = noPauses →
      (s.chan n).work ≠ none → (s.chan n).ended = none → s.dataOutstanding n = false → s.beatOf n = false →
      ∃ t, exec (.chPause n u) s = .next t ∧ commandTaken s t (channelCommandWord u n 0x11#8) ∧
        t.chan n = { s.chan n with state := .paused, pauses := { host := true, retention := false, unowned := false } } ∧
        unchangedBut [.chan n, .command, .cmdStatus, .host] s t) ∧
    (s.takesFirstReason n → s.oneRequest n →
      ∃ t, exec (.chPause n u) s = .next t ∧ commandTaken s t (channelCommandWord u n 0x11#8) ∧
        t.chan n = { s.chan n with
          state := if s.pausesAtOnce n then .paused else .active
          pauses := { host := true, retention := false, unowned := false } } ∧
        (∀ b, t.arb b = { s.arb b with ch := (s.arb b).ch.set n (s.requestLeft n b) }) ∧
        unchangedBut ([.chan n, .command, .cmdStatus, .host] ++ allArbs) s t) ∧
    ((s.chan n).state = .idle ∨ (s.chan n).state = .halted →
      ∃ t, exec (.chPause n u) s = .next t ∧ commandRefused s t (channelCommandWord u n 0x11#8) .state) ∧
    (s.inService = true → (s.chan n).aborting = false → (s.chan n).state = .paused → s.portQuiet →
      ((s.chan n).pauses.retention = true →
        ∃ t, exec (.chResume n u) s = .next t ∧ commandTaken s t (channelCommandWord u n 0x12#8) ∧
          t.chan n = { s.chan n with pauses := { host := false, retention := true, unowned := false } } ∧
          unchangedBut [.chan n, .command, .cmdStatus, .host] s t) ∧
      ((s.chan n).pauses.retention = false → (s.chan n).pauses.any = true → (s.chan n).work = none →
        (s.chan n).residual = false → s.isReady (bankOf (descWord (s.chan n).desc)) = true →
        ∃ t, exec (.chResume n u) s = .next t ∧ commandTaken s t (channelCommandWord u n 0x12#8) ∧
          t.chan n = { s.chan n with state := .loading, pauses := noPauses } ∧
          (∀ c, t.arb c = withRequest n { kind := .fetch n, addr := descWord (s.chan n).desc, words := 4 } c (s.arb c)) ∧
          unchangedBut ([.chan n, .command, .cmdStatus, .host] ++ allArbs) s t) ∧
      ((s.chan n).pauses.retention = false → (s.chan n).pauses.any = true → s.mayGoOn n →
        ∃ t, exec (.chResume n u) s = .next t ∧ commandTaken s t (channelCommandWord u n 0x12#8) ∧ wentOn s t n ∧
          unchangedBut ([.chan n, .command, .cmdStatus, .host] ++ allArbs) s t))

/-- R140, R141: CH_ABORT of a PAUSED channel without a descriptor stops it at once as ABORTED; of an ACTIVE one with a data operation in flight
and nothing pending it sets ABORTING and lets the operation run. R143: CH_RESET, in every channel and retention state, withdraws the channel's
request, leaves its operations and beat to run as residual, and makes it IDLE with STOP, FAULT and DONE cleared, its descriptor address and fences
kept. -/
def Obligations.ChannelsAbortAndReset : Prop :=
  ∀ (s : State) (n : ChanNo) (u : BitVec 22), s.commandReady →
    ((s.chan n).state = .paused → (s.chan n).aborting = false → (s.chan n).work = none →
      (∀ c, (s.arb c).ch.get n = none) →
      ∃ t, exec (.chAbort n u) s = .next t ∧ t.command = channelCommandWord u n 0x13#8 ∧ t.cmdStatus = takenStatus 0x13#8 ∧
        t.host = endedPort s.host (.ready none) ∧ t.chan n = stoppedChan (s.chan n) .aborted ∧
        t.events = withEvent s.events (.stop n) ∧
        unchangedBut [.chan n, .events, .command, .cmdStatus, .host] s t) ∧
    (∀ b o, (s.chan n).state = .active → (s.chan n).aborting = false → (s.chan n).work ≠ none →
      (∀ c, (s.arb c).ch.get n = none) → (s.bank b).op = some o → (o.kind = .dataRead n ∨ o.kind = .dataWrite n) →
      ∃ t, exec (.chAbort n u) s = .next t ∧ commandTaken s t (channelCommandWord u n 0x13#8) ∧
        t.chan n = { s.chan n with aborting := true } ∧ unchangedBut [.chan n, .command, .cmdStatus, .host] s t) ∧
    (∃ t, exec (.chReset n u) s = .next t ∧ commandTaken s t (channelCommandWord u n 0x14#8) ∧
      t.chan n = { state := .idle, pauses := noPauses, stop := .none, fault := .none, aborting := false
                   residual := (s.chan n).residual || s.chanOp n (fun _ => true) || s.beatOf n
                   desc := (s.chan n).desc, work := none, remaining := 0, ended := none, fifo := [], done := 0#16
                   fenceBase := (s.chan n).fenceBase, fenceLimit := (s.chan n).fenceLimit } ∧
      (∀ b, t.bank b = { s.bank b with op := (s.bank b).op.map (disowned n) }) ∧
      (∀ b, t.arb b = { s.arb b with ch := (s.arb b).ch.set n none }) ∧
      t.stream = { s.stream with
        beat := s.stream.beat.map fun x => if x.ch = n then { x with residual := true } else x } ∧
      unchangedBut ([.chan n, .stream, .command, .cmdStatus, .host] ++ allBanks ++ allArbs) s t)

/-- R112, R40, R61, R96, R88, R150, R181, R184: a SOFT_RESET taken in service. FILL_PENDING groups, and the group being filled when no segment of
it is in flight, become DISCARD, KEEP and LAPSED groups stay with their weak counts; the fill queue is empty. With a segment in flight its group
stays FILLING, and the queue holds that group alone, as an ending entry. The scrubber is IDLE at its first position with no credits, its pass
count kept; the override is disarmed; every channel is IDLE, and its operations and beat, and a scrub segment, run on as residual; the log is
empty and every flag clear; CONFIG, CONFIG2, the host queue, the enables, the retention controller and the array are kept, and so is the account
of a bank whose cursor still rests on a group in need of refresh. -/
def Obligations.SoftResetKeepsTheArray : Prop :=
  ∀ (s : State) (u : BitVec 24), s.commandReady → s.tablesWf → s.inService = true →
    let dropped (g : Nat) : Prop :=
      (s.group g).state = .fillPending ∨ s.fillInFlight = false ∧ s.fillingGroup = some g
    ∃ t, exec (.softReset u) s = .next t ∧ commandTaken s t (commandWord u 0x1F#8) ∧
      (∀ g, dropped g → t.group g = { state := .discard, weak := 0 }) ∧
      (∀ g, ¬dropped g → t.group g = s.group g) ∧
      (s.fillInFlight = false →
        t.fill = { queue := [], ending := false, segment := 0, restart := false, held := s.fill.held }) ∧
      (∀ e rest, s.fillInFlight = true → s.fill.queue = e :: rest → s.fillingGroup = some e.next →
        t.fill = { s.fill with queue := [{ first := e.next, count := 1, next := e.next }], ending := true }) ∧
      t.scrub = { bank := 0, row := 0#11, segment := 0#5, credits := 0, pass := s.scrub.pass, state := .idle } ∧
      t.override = { s.override with armed := false } ∧
      (∀ n, t.chan n = { state := .idle, pauses := noPauses, stop := .none, fault := .none, aborting := false
                         residual := (s.chan n).residual || s.chanOp n (fun _ => true) || s.beatOf n
                         desc := (s.chan n).desc, work := none, remaining := 0, ended := none, fifo := [], done := 0#16
                         fenceBase := (s.chan n).fenceBase, fenceLimit := (s.chan n).fenceLimit }) ∧
      (∀ b, t.arb b = { s.arb b with ch := Four.all none, fill := none, scrub := none }) ∧
      (∀ b, t.bank b = { s.bank b with
        op := (s.bank b).op.map fun o =>
          if o.kind.channel ≠ none ∨ o.kind = .scrubSegment then { o with residual := true } else o }) ∧
      t.stream = { s.stream with beat := s.stream.beat.map fun x => { x with residual := true } } ∧
      (∀ b, t.needsRefresh (s.cursorGroup b) = true ∨ s.isReady b = false → t.account b = s.account b) ∧
      t.log = { records := [], nextSeq := 0#8, overflow := 0 } ∧ t.events = { s.events with sticky := 0#17 } ∧
      unchangedBut ([.groups, .fill, .scrub, .override, .stream, .log, .events, .command, .cmdStatus, .host] ++
        allChans ++ allArbs ++ allBanks ++ allAccounts) s t

/-- R186, R110: a word whose code names no command is refused with ARG. R4, R7, R27, R37, R112, R137, R139, R163, R164: outside NORMAL and DENIED
a BANK_ON, BANK_OFF, FILL, RELEASE, CH_START, CH_RESUME or SOFT_RESET that passes the conditions checked before that on the retention state
(values in range, and for BANK_ON a fitted bank) is refused with RETENTION. A refusal changes COMMAND, CMD_STATUS and the REFUSED flag, and
nothing else. -/
def Obligations.RefusalsChangeNothing : Prop :=
  ∀ s : State, s.commandReady →
    (∀ w : Word, commandCode w ∉ commandCodes →
      ∃ t, exec (.unknownCommand w) s = .next t ∧ commandRefused s t w .arg) ∧
    (∀ (c : Instr) (w : Word), s.inService = false → commandWordOf c = some w →
      ((∃ u b, (c = .bankOn u ∧ s.fitted.get b = true ∨ c = .bankOff u) ∧ s.arg = BitVec.ofNat 32 b.val) ∨
        (∃ u first count, (c = .fill u ∨ c = .release u) ∧ s.arg = BitVec.ofNat 16 count ++ BitVec.ofNat 16 first ∧
          1 ≤ count ∧ first + count ≤ 1024) ∨
        (∃ n u, ∃ d : DescAddr, c = .chStart n u ∧ s.arg = (0#8 ++ d ++ 0#4 : BitVec 32)) ∨
        (∃ n u, c = .chResume n u) ∨ (∃ u, c = .softReset u)) →
      ∃ t, exec c s = .next t ∧ commandRefused s t w .retention)

/-! ### The stream port (chapter 9) -/

/-- R157, R156, R155: SRQ_ASSERT raises the level; on a free port with no other channel eligible, a running STREAM_IN channel with room begins its
beat, and the rotation position names it. SRQ_DEASSERT with no beat of the channel in progress lowers the level. While RESET is asserted only the
level changes. -/
def Obligations.SrqLevelsAndBeats : Prop :=
  ∀ (s : State) (n : ChanNo),
    (s.resetAsserted = true →
      (∃ t, exec (.srqAssert n) s = .next t ∧ t.stream = { s.stream with srq := s.stream.srq.set n true } ∧
        unchangedBut [.stream] s t) ∧
      (∃ t, exec (.srqDeassert n) s = .next t ∧ t.stream = { s.stream with srq := s.stream.srq.set n false } ∧
        unchangedBut [.stream] s t)) ∧
    (s.atRest → s.stream.beat ≠ none →
      ∃ t, exec (.srqAssert n) s = .next t ∧ t.stream = { s.stream with srq := s.stream.srq.set n true } ∧
        unchangedBut [.stream] s t) ∧
    (∀ w, s.atRest → s.stream.beat = none → (∀ m, s.eligible m = false) → runs (s.chan n) = true →
      (s.chan n).work = some w → w.op = .streamIn → (s.chan n).fifo.length < 16 →
      (s.chan n).fifo.length < (s.chan n).remaining → (∀ x ∈ (s.chan n).fifo, x.last = false) →
      ∃ t, exec (.srqAssert n) s = .next t ∧
        t.stream = { beat := some { ch := n, out := none, residual := false }, rot := n, beatCh := n
                     srq := s.stream.srq.set n true } ∧
        unchangedBut [.stream] s t) ∧
    (s.atRest → s.beatOf n = false →
      ∃ t, exec (.srqDeassert n) s = .next t ∧ t.stream = { s.stream with srq := s.stream.srq.set n false } ∧
        unchangedBut [.stream] s t)

/-- R153, R158, R159, R160, R161: STREAM_TAKE of the beat in progress, no other channel being eligible, lowers SRQn and frees the port. An IN beat
adds the word and its mark to the FIFO; an OUT beat takes the head word and lowers REMAINING; SLAST empties the FIFO and ends the descriptor, with
its write-back when WB is 1; a residual beat moves nothing. -/
def Obligations.StreamTakeMovesOneWord : Prop :=
  ∀ (s : State) (n : ChanNo) (sd : Word) (slast : Bool) (x : Beat), s.atRest → s.stream.beat = some x → x.ch = n →
    (∀ m, s.eligible m = false) →
    let freed : StreamPort := { s.stream with beat := none, srq := s.stream.srq.set n false }
    (x.residual = true →
      ∃ t, exec (.streamTake n sd slast) s = .next t ∧ t.stream = freed ∧ unchangedBut [.stream] s t) ∧
    (x.residual = false → x.out = none → s.allReady →
      ∃ t, exec (.streamTake n sd slast) s = .next t ∧ t.stream = freed ∧
        t.chan n = { s.chan n with fifo := (s.chan n).fifo ++ [{ data := sd, last := slast }] } ∧
        (∀ c, { t.arb c with ch := (t.arb c).ch.set n none } = { s.arb c with ch := (s.arb c).ch.set n none }) ∧
        unchangedBut ([.stream, .chan n] ++ allArbs) s t) ∧
    (∀ w d, x.residual = false → x.out = some d → slast = false → (s.chan n).work = some w → (s.chan n).aborting = false →
      2 ≤ (s.chan n).remaining → s.allReady →
      ∃ t, exec (.streamTake n sd slast) s = .next t ∧ t.stream = freed ∧
        t.chan n = { s.chan n with fifo := (s.chan n).fifo.drop 1, remaining := (s.chan n).remaining - 1 } ∧
        (∀ c, { t.arb c with ch := (t.arb c).ch.set n none } = { s.arb c with ch := (s.arb c).ch.set n none }) ∧
        unchangedBut ([.stream, .chan n] ++ allArbs) s t) ∧
    (∀ w d, x.residual = false → x.out = some d → slast = true → (s.chan n).work = some w → (s.chan n).aborting = false →
      w.wb = true → (∀ c, (s.arb c).ch.get n = none) →
      (∀ b, (s.bank b).op.any (fun o => o.kind.channel == some n) = false) →
      s.isReady (bankOf (descWord (s.chan n).desc)) = true →
      ∃ t, exec (.streamTake n sd slast) s = .next t ∧ t.stream = freed ∧
        t.chan n = { s.chan n with
          fifo := [], remaining := (s.chan n).remaining - 1
          ended := some (if (s.chan n).remaining ≤ 1 then .complete else .short) } ∧
        (∀ c, t.arb c = withRequest n
          { kind := .writeback n, addr := descWord (s.chan n).desc, words := 1 } c (s.arb c)) ∧
        unchangedBut ([.stream, .chan n] ++ allArbs) s t)
end

