-- ==== Sys2Proof/Laws/State.lean ====
section
/-! SUPPORT. Laws/State.lean: for every plain update of the state, one lemma per field it leaves alone, and the lemmas of the parts by bank
and by channel. -/

namespace Sys2Proof.Machine

/-! ### Four -/

@[simp] theorem Four.get_set_self {α : Type} (f : Four α) (i : Fin 4) (x : α) : (f.set i x).get i = x := by
  match i with
  | 0 | 1 | 2 | 3 => rfl

theorem Four.get_set_ne {α : Type} (f : Four α) {i j : Fin 4} (x : α) (h : j ≠ i) : (f.set i x).get j = f.get j := by
  fin_cases i <;> fin_cases j <;> first | rfl | exact absurd rfl h

theorem Four.get_set {α : Type} (f : Four α) (i j : Fin 4) (x : α) :
    (f.set i x).get j = if j = i then x else f.get j := by
  by_cases h : j = i
  · subst h
    simp
  · simp [h, Four.get_set_ne]

@[simp] theorem Four.set_get {α : Type} (f : Four α) (i : Fin 4) : f.set i (f.get i) = f := by
  match i with
  | 0 | 1 | 2 | 3 => rfl

@[simp] theorem Four.set_set {α : Type} (f : Four α) (i : Fin 4) (x y : α) : (f.set i x).set i y = f.set i y := by
  match i with
  | 0 | 1 | 2 | 3 => rfl

@[simp] theorem Four.get_all {α : Type} (x : α) (i : Fin 4) : (Four.all x).get i = x := by
  match i with
  | 0 | 1 | 2 | 3 => rfl

@[simp] theorem Four.get_map {α β : Type} (f : Four α) (g : α → β) (i : Fin 4) : (f.map g).get i = g (f.get i) := by
  match i with
  | 0 | 1 | 2 | 3 => rfl

theorem Four.ext_get {α : Type} {f g : Four α} (h : ∀ i, f.get i = g.get i) : f = g := by
  cases f
  cases g
  simp only [Four.mk.injEq]
  exact ⟨h 0, h 1, h 2, h 3⟩

@[simp] theorem Four.mem_indices (i : Fin 4) : i ∈ Four.indices := by
  match i with
  | 0 | 1 | 2 | 3 => decide

/-! ### What each update leaves alone -/

@[simp] theorem State.setWord_pending (s : State) (w : WordAddr) (x : Stored) : (s.setWord w x).pending = s.pending := rfl
@[simp] theorem State.setWord_resetAsserted (s : State) (w : WordAddr) (x : Stored) : (s.setWord w x).resetAsserted = s.resetAsserted := rfl
@[simp] theorem State.setWord_groups (s : State) (w : WordAddr) (x : Stored) : (s.setWord w x).groups = s.groups := rfl
@[simp] theorem State.setWord_config (s : State) (w : WordAddr) (x : Stored) : (s.setWord w x).config = s.config := rfl
@[simp] theorem State.setWord_fitted (s : State) (w : WordAddr) (x : Stored) : (s.setWord w x).fitted = s.fitted := rfl
@[simp] theorem State.setWord_timing (s : State) (w : WordAddr) (x : Stored) : (s.setWord w x).timing = s.timing := rfl
@[simp] theorem State.setWord_banks (s : State) (w : WordAddr) (x : Stored) : (s.setWord w x).banks = s.banks := rfl
@[simp] theorem State.setWord_arbs (s : State) (w : WordAddr) (x : Stored) : (s.setWord w x).arbs = s.arbs := rfl
@[simp] theorem State.setWord_refresh (s : State) (w : WordAddr) (x : Stored) : (s.setWord w x).refresh = s.refresh := rfl
@[simp] theorem State.setWord_tick (s : State) (w : WordAddr) (x : Stored) : (s.setWord w x).tick = s.tick := rfl
@[simp] theorem State.setWord_fill (s : State) (w : WordAddr) (x : Stored) : (s.setWord w x).fill = s.fill := rfl
@[simp] theorem State.setWord_scrub (s : State) (w : WordAddr) (x : Stored) : (s.setWord w x).scrub = s.scrub := rfl
@[simp] theorem State.setWord_override (s : State) (w : WordAddr) (x : Stored) : (s.setWord w x).override = s.override := rfl
@[simp] theorem State.setWord_host (s : State) (w : WordAddr) (x : Stored) : (s.setWord w x).host = s.host := rfl
@[simp] theorem State.setWord_command (s : State) (w : WordAddr) (x : Stored) : (s.setWord w x).command = s.command := rfl
@[simp] theorem State.setWord_arg (s : State) (w : WordAddr) (x : Stored) : (s.setWord w x).arg = s.arg := rfl
@[simp] theorem State.setWord_cmdStatus (s : State) (w : WordAddr) (x : Stored) : (s.setWord w x).cmdStatus = s.cmdStatus := rfl
@[simp] theorem State.setWord_chans (s : State) (w : WordAddr) (x : Stored) : (s.setWord w x).chans = s.chans := rfl
@[simp] theorem State.setWord_stream (s : State) (w : WordAddr) (x : Stored) : (s.setWord w x).stream = s.stream := rfl
@[simp] theorem State.setWord_retention (s : State) (w : WordAddr) (x : Stored) : (s.setWord w x).retention = s.retention := rfl
@[simp] theorem State.setWord_log (s : State) (w : WordAddr) (x : Stored) : (s.setWord w x).log = s.log := rfl
@[simp] theorem State.setWord_events (s : State) (w : WordAddr) (x : Stored) : (s.setWord w x).events = s.events := rfl
@[simp] theorem State.setWord_ties (s : State) (w : WordAddr) (x : Stored) : (s.setWord w x).ties = s.ties := rfl
@[simp] theorem State.setWord_group (s : State) (w : WordAddr) (x : Stored) (g' : Nat) : (s.setWord w x).group g' = s.group g' := rfl
@[simp] theorem State.setWord_bank (s : State) (w : WordAddr) (x : Stored) (b' : BankNo) : (s.setWord w x).bank b' = s.bank b' := rfl
@[simp] theorem State.setWord_arb (s : State) (w : WordAddr) (x : Stored) (b' : BankNo) : (s.setWord w x).arb b' = s.arb b' := rfl
@[simp] theorem State.setWord_account (s : State) (w : WordAddr) (x : Stored) (b' : BankNo) : (s.setWord w x).account b' = s.account b' := rfl
@[simp] theorem State.setWord_chan (s : State) (w : WordAddr) (x : Stored) (n' : ChanNo) : (s.setWord w x).chan n' = s.chan n' := rfl

@[simp] theorem State.setGroup_pending (s : State) (g : Nat) (x : Group) : (s.setGroup g x).pending = s.pending := rfl
@[simp] theorem State.setGroup_resetAsserted (s : State) (g : Nat) (x : Group) : (s.setGroup g x).resetAsserted = s.resetAsserted := rfl
@[simp] theorem State.setGroup_array (s : State) (g : Nat) (x : Group) : (s.setGroup g x).array = s.array := rfl
@[simp] theorem State.setGroup_config (s : State) (g : Nat) (x : Group) : (s.setGroup g x).config = s.config := rfl
@[simp] theorem State.setGroup_fitted (s : State) (g : Nat) (x : Group) : (s.setGroup g x).fitted = s.fitted := rfl
@[simp] theorem State.setGroup_timing (s : State) (g : Nat) (x : Group) : (s.setGroup g x).timing = s.timing := rfl
@[simp] theorem State.setGroup_banks (s : State) (g : Nat) (x : Group) : (s.setGroup g x).banks = s.banks := rfl
@[simp] theorem State.setGroup_arbs (s : State) (g : Nat) (x : Group) : (s.setGroup g x).arbs = s.arbs := rfl
@[simp] theorem State.setGroup_refresh (s : State) (g : Nat) (x : Group) : (s.setGroup g x).refresh = s.refresh := rfl
@[simp] theorem State.setGroup_tick (s : State) (g : Nat) (x : Group) : (s.setGroup g x).tick = s.tick := rfl
@[simp] theorem State.setGroup_fill (s : State) (g : Nat) (x : Group) : (s.setGroup g x).fill = s.fill := rfl
@[simp] theorem State.setGroup_scrub (s : State) (g : Nat) (x : Group) : (s.setGroup g x).scrub = s.scrub := rfl
@[simp] theorem State.setGroup_override (s : State) (g : Nat) (x : Group) : (s.setGroup g x).override = s.override := rfl
@[simp] theorem State.setGroup_host (s : State) (g : Nat) (x : Group) : (s.setGroup g x).host = s.host := rfl
@[simp] theorem State.setGroup_command (s : State) (g : Nat) (x : Group) : (s.setGroup g x).command = s.command := rfl
@[simp] theorem State.setGroup_arg (s : State) (g : Nat) (x : Group) : (s.setGroup g x).arg = s.arg := rfl
@[simp] theorem State.setGroup_cmdStatus (s : State) (g : Nat) (x : Group) : (s.setGroup g x).cmdStatus = s.cmdStatus := rfl
@[simp] theorem State.setGroup_chans (s : State) (g : Nat) (x : Group) : (s.setGroup g x).chans = s.chans := rfl
@[simp] theorem State.setGroup_stream (s : State) (g : Nat) (x : Group) : (s.setGroup g x).stream = s.stream := rfl
@[simp] theorem State.setGroup_retention (s : State) (g : Nat) (x : Group) : (s.setGroup g x).retention = s.retention := rfl
@[simp] theorem State.setGroup_log (s : State) (g : Nat) (x : Group) : (s.setGroup g x).log = s.log := rfl
@[simp] theorem State.setGroup_events (s : State) (g : Nat) (x : Group) : (s.setGroup g x).events = s.events := rfl
@[simp] theorem State.setGroup_ties (s : State) (g : Nat) (x : Group) : (s.setGroup g x).ties = s.ties := rfl
@[simp] theorem State.setGroup_word (s : State) (g : Nat) (x : Group) (w' : WordAddr) : (s.setGroup g x).word w' = s.word w' := rfl
@[simp] theorem State.setGroup_bank (s : State) (g : Nat) (x : Group) (b' : BankNo) : (s.setGroup g x).bank b' = s.bank b' := rfl
@[simp] theorem State.setGroup_arb (s : State) (g : Nat) (x : Group) (b' : BankNo) : (s.setGroup g x).arb b' = s.arb b' := rfl
@[simp] theorem State.setGroup_account (s : State) (g : Nat) (x : Group) (b' : BankNo) : (s.setGroup g x).account b' = s.account b' := rfl
@[simp] theorem State.setGroup_chan (s : State) (g : Nat) (x : Group) (n' : ChanNo) : (s.setGroup g x).chan n' = s.chan n' := rfl

@[simp] theorem State.setBank_pending (s : State) (b : BankNo) (x : Bank) : (s.setBank b x).pending = s.pending := rfl
@[simp] theorem State.setBank_resetAsserted (s : State) (b : BankNo) (x : Bank) : (s.setBank b x).resetAsserted = s.resetAsserted := rfl
@[simp] theorem State.setBank_array (s : State) (b : BankNo) (x : Bank) : (s.setBank b x).array = s.array := rfl
@[simp] theorem State.setBank_groups (s : State) (b : BankNo) (x : Bank) : (s.setBank b x).groups = s.groups := rfl
@[simp] theorem State.setBank_config (s : State) (b : BankNo) (x : Bank) : (s.setBank b x).config = s.config := rfl
@[simp] theorem State.setBank_fitted (s : State) (b : BankNo) (x : Bank) : (s.setBank b x).fitted = s.fitted := rfl
@[simp] theorem State.setBank_timing (s : State) (b : BankNo) (x : Bank) : (s.setBank b x).timing = s.timing := rfl
@[simp] theorem State.setBank_arbs (s : State) (b : BankNo) (x : Bank) : (s.setBank b x).arbs = s.arbs := rfl
@[simp] theorem State.setBank_refresh (s : State) (b : BankNo) (x : Bank) : (s.setBank b x).refresh = s.refresh := rfl
@[simp] theorem State.setBank_tick (s : State) (b : BankNo) (x : Bank) : (s.setBank b x).tick = s.tick := rfl
@[simp] theorem State.setBank_fill (s : State) (b : BankNo) (x : Bank) : (s.setBank b x).fill = s.fill := rfl
@[simp] theorem State.setBank_scrub (s : State) (b : BankNo) (x : Bank) : (s.setBank b x).scrub = s.scrub := rfl
@[simp] theorem State.setBank_override (s : State) (b : BankNo) (x : Bank) : (s.setBank b x).override = s.override := rfl
@[simp] theorem State.setBank_host (s : State) (b : BankNo) (x : Bank) : (s.setBank b x).host = s.host := rfl
@[simp] theorem State.setBank_command (s : State) (b : BankNo) (x : Bank) : (s.setBank b x).command = s.command := rfl
@[simp] theorem State.setBank_arg (s : State) (b : BankNo) (x : Bank) : (s.setBank b x).arg = s.arg := rfl
@[simp] theorem State.setBank_cmdStatus (s : State) (b : BankNo) (x : Bank) : (s.setBank b x).cmdStatus = s.cmdStatus := rfl
@[simp] theorem State.setBank_chans (s : State) (b : BankNo) (x : Bank) : (s.setBank b x).chans = s.chans := rfl
@[simp] theorem State.setBank_stream (s : State) (b : BankNo) (x : Bank) : (s.setBank b x).stream = s.stream := rfl
@[simp] theorem State.setBank_retention (s : State) (b : BankNo) (x : Bank) : (s.setBank b x).retention = s.retention := rfl
@[simp] theorem State.setBank_log (s : State) (b : BankNo) (x : Bank) : (s.setBank b x).log = s.log := rfl
@[simp] theorem State.setBank_events (s : State) (b : BankNo) (x : Bank) : (s.setBank b x).events = s.events := rfl
@[simp] theorem State.setBank_ties (s : State) (b : BankNo) (x : Bank) : (s.setBank b x).ties = s.ties := rfl
@[simp] theorem State.setBank_word (s : State) (b : BankNo) (x : Bank) (w' : WordAddr) : (s.setBank b x).word w' = s.word w' := rfl
@[simp] theorem State.setBank_group (s : State) (b : BankNo) (x : Bank) (g' : Nat) : (s.setBank b x).group g' = s.group g' := rfl
@[simp] theorem State.setBank_arb (s : State) (b : BankNo) (x : Bank) (b' : BankNo) : (s.setBank b x).arb b' = s.arb b' := rfl
@[simp] theorem State.setBank_account (s : State) (b : BankNo) (x : Bank) (b' : BankNo) : (s.setBank b x).account b' = s.account b' := rfl
@[simp] theorem State.setBank_chan (s : State) (b : BankNo) (x : Bank) (n' : ChanNo) : (s.setBank b x).chan n' = s.chan n' := rfl

@[simp] theorem State.setArb_pending (s : State) (b : BankNo) (x : Arbiter) : (s.setArb b x).pending = s.pending := rfl
@[simp] theorem State.setArb_resetAsserted (s : State) (b : BankNo) (x : Arbiter) : (s.setArb b x).resetAsserted = s.resetAsserted := rfl
@[simp] theorem State.setArb_array (s : State) (b : BankNo) (x : Arbiter) : (s.setArb b x).array = s.array := rfl
@[simp] theorem State.setArb_groups (s : State) (b : BankNo) (x : Arbiter) : (s.setArb b x).groups = s.groups := rfl
@[simp] theorem State.setArb_config (s : State) (b : BankNo) (x : Arbiter) : (s.setArb b x).config = s.config := rfl
@[simp] theorem State.setArb_fitted (s : State) (b : BankNo) (x : Arbiter) : (s.setArb b x).fitted = s.fitted := rfl
@[simp] theorem State.setArb_timing (s : State) (b : BankNo) (x : Arbiter) : (s.setArb b x).timing = s.timing := rfl
@[simp] theorem State.setArb_banks (s : State) (b : BankNo) (x : Arbiter) : (s.setArb b x).banks = s.banks := rfl
@[simp] theorem State.setArb_refresh (s : State) (b : BankNo) (x : Arbiter) : (s.setArb b x).refresh = s.refresh := rfl
@[simp] theorem State.setArb_tick (s : State) (b : BankNo) (x : Arbiter) : (s.setArb b x).tick = s.tick := rfl
@[simp] theorem State.setArb_fill (s : State) (b : BankNo) (x : Arbiter) : (s.setArb b x).fill = s.fill := rfl
@[simp] theorem State.setArb_scrub (s : State) (b : BankNo) (x : Arbiter) : (s.setArb b x).scrub = s.scrub := rfl
@[simp] theorem State.setArb_override (s : State) (b : BankNo) (x : Arbiter) : (s.setArb b x).override = s.override := rfl
@[simp] theorem State.setArb_host (s : State) (b : BankNo) (x : Arbiter) : (s.setArb b x).host = s.host := rfl
@[simp] theorem State.setArb_command (s : State) (b : BankNo) (x : Arbiter) : (s.setArb b x).command = s.command := rfl
@[simp] theorem State.setArb_arg (s : State) (b : BankNo) (x : Arbiter) : (s.setArb b x).arg = s.arg := rfl
@[simp] theorem State.setArb_cmdStatus (s : State) (b : BankNo) (x : Arbiter) : (s.setArb b x).cmdStatus = s.cmdStatus := rfl
@[simp] theorem State.setArb_chans (s : State) (b : BankNo) (x : Arbiter) : (s.setArb b x).chans = s.chans := rfl
@[simp] theorem State.setArb_stream (s : State) (b : BankNo) (x : Arbiter) : (s.setArb b x).stream = s.stream := rfl
@[simp] theorem State.setArb_retention (s : State) (b : BankNo) (x : Arbiter) : (s.setArb b x).retention = s.retention := rfl
@[simp] theorem State.setArb_log (s : State) (b : BankNo) (x : Arbiter) : (s.setArb b x).log = s.log := rfl
@[simp] theorem State.setArb_events (s : State) (b : BankNo) (x : Arbiter) : (s.setArb b x).events = s.events := rfl
@[simp] theorem State.setArb_ties (s : State) (b : BankNo) (x : Arbiter) : (s.setArb b x).ties = s.ties := rfl
@[simp] theorem State.setArb_word (s : State) (b : BankNo) (x : Arbiter) (w' : WordAddr) : (s.setArb b x).word w' = s.word w' := rfl
@[simp] theorem State.setArb_group (s : State) (b : BankNo) (x : Arbiter) (g' : Nat) : (s.setArb b x).group g' = s.group g' := rfl
@[simp] theorem State.setArb_bank (s : State) (b : BankNo) (x : Arbiter) (b' : BankNo) : (s.setArb b x).bank b' = s.bank b' := rfl
@[simp] theorem State.setArb_account (s : State) (b : BankNo) (x : Arbiter) (b' : BankNo) : (s.setArb b x).account b' = s.account b' := rfl
@[simp] theorem State.setArb_chan (s : State) (b : BankNo) (x : Arbiter) (n' : ChanNo) : (s.setArb b x).chan n' = s.chan n' := rfl

@[simp] theorem State.setAccount_pending (s : State) (b : BankNo) (x : RefreshAccount) : (s.setAccount b x).pending = s.pending := rfl
@[simp] theorem State.setAccount_resetAsserted (s : State) (b : BankNo) (x : RefreshAccount) : (s.setAccount b x).resetAsserted = s.resetAsserted := rfl
@[simp] theorem State.setAccount_array (s : State) (b : BankNo) (x : RefreshAccount) : (s.setAccount b x).array = s.array := rfl
@[simp] theorem State.setAccount_groups (s : State) (b : BankNo) (x : RefreshAccount) : (s.setAccount b x).groups = s.groups := rfl
@[simp] theorem State.setAccount_config (s : State) (b : BankNo) (x : RefreshAccount) : (s.setAccount b x).config = s.config := rfl
@[simp] theorem State.setAccount_fitted (s : State) (b : BankNo) (x : RefreshAccount) : (s.setAccount b x).fitted = s.fitted := rfl
@[simp] theorem State.setAccount_timing (s : State) (b : BankNo) (x : RefreshAccount) : (s.setAccount b x).timing = s.timing := rfl
@[simp] theorem State.setAccount_banks (s : State) (b : BankNo) (x : RefreshAccount) : (s.setAccount b x).banks = s.banks := rfl
@[simp] theorem State.setAccount_arbs (s : State) (b : BankNo) (x : RefreshAccount) : (s.setAccount b x).arbs = s.arbs := rfl
@[simp] theorem State.setAccount_tick (s : State) (b : BankNo) (x : RefreshAccount) : (s.setAccount b x).tick = s.tick := rfl
@[simp] theorem State.setAccount_fill (s : State) (b : BankNo) (x : RefreshAccount) : (s.setAccount b x).fill = s.fill := rfl
@[simp] theorem State.setAccount_scrub (s : State) (b : BankNo) (x : RefreshAccount) : (s.setAccount b x).scrub = s.scrub := rfl
@[simp] theorem State.setAccount_override (s : State) (b : BankNo) (x : RefreshAccount) : (s.setAccount b x).override = s.override := rfl
@[simp] theorem State.setAccount_host (s : State) (b : BankNo) (x : RefreshAccount) : (s.setAccount b x).host = s.host := rfl
@[simp] theorem State.setAccount_command (s : State) (b : BankNo) (x : RefreshAccount) : (s.setAccount b x).command = s.command := rfl
@[simp] theorem State.setAccount_arg (s : State) (b : BankNo) (x : RefreshAccount) : (s.setAccount b x).arg = s.arg := rfl
@[simp] theorem State.setAccount_cmdStatus (s : State) (b : BankNo) (x : RefreshAccount) : (s.setAccount b x).cmdStatus = s.cmdStatus := rfl
@[simp] theorem State.setAccount_chans (s : State) (b : BankNo) (x : RefreshAccount) : (s.setAccount b x).chans = s.chans := rfl
@[simp] theorem State.setAccount_stream (s : State) (b : BankNo) (x : RefreshAccount) : (s.setAccount b x).stream = s.stream := rfl
@[simp] theorem State.setAccount_retention (s : State) (b : BankNo) (x : RefreshAccount) : (s.setAccount b x).retention = s.retention := rfl
@[simp] theorem State.setAccount_log (s : State) (b : BankNo) (x : RefreshAccount) : (s.setAccount b x).log = s.log := rfl
@[simp] theorem State.setAccount_events (s : State) (b : BankNo) (x : RefreshAccount) : (s.setAccount b x).events = s.events := rfl
@[simp] theorem State.setAccount_ties (s : State) (b : BankNo) (x : RefreshAccount) : (s.setAccount b x).ties = s.ties := rfl
@[simp] theorem State.setAccount_word (s : State) (b : BankNo) (x : RefreshAccount) (w' : WordAddr) : (s.setAccount b x).word w' = s.word w' := rfl
@[simp] theorem State.setAccount_group (s : State) (b : BankNo) (x : RefreshAccount) (g' : Nat) : (s.setAccount b x).group g' = s.group g' := rfl
@[simp] theorem State.setAccount_bank (s : State) (b : BankNo) (x : RefreshAccount) (b' : BankNo) : (s.setAccount b x).bank b' = s.bank b' := rfl
@[simp] theorem State.setAccount_arb (s : State) (b : BankNo) (x : RefreshAccount) (b' : BankNo) : (s.setAccount b x).arb b' = s.arb b' := rfl
@[simp] theorem State.setAccount_chan (s : State) (b : BankNo) (x : RefreshAccount) (n' : ChanNo) : (s.setAccount b x).chan n' = s.chan n' := rfl

@[simp] theorem State.setChan_pending (s : State) (n : ChanNo) (x : Channel) : (s.setChan n x).pending = s.pending := rfl
@[simp] theorem State.setChan_resetAsserted (s : State) (n : ChanNo) (x : Channel) : (s.setChan n x).resetAsserted = s.resetAsserted := rfl
@[simp] theorem State.setChan_array (s : State) (n : ChanNo) (x : Channel) : (s.setChan n x).array = s.array := rfl
@[simp] theorem State.setChan_groups (s : State) (n : ChanNo) (x : Channel) : (s.setChan n x).groups = s.groups := rfl
@[simp] theorem State.setChan_config (s : State) (n : ChanNo) (x : Channel) : (s.setChan n x).config = s.config := rfl
@[simp] theorem State.setChan_fitted (s : State) (n : ChanNo) (x : Channel) : (s.setChan n x).fitted = s.fitted := rfl
@[simp] theorem State.setChan_timing (s : State) (n : ChanNo) (x : Channel) : (s.setChan n x).timing = s.timing := rfl
@[simp] theorem State.setChan_banks (s : State) (n : ChanNo) (x : Channel) : (s.setChan n x).banks = s.banks := rfl
@[simp] theorem State.setChan_arbs (s : State) (n : ChanNo) (x : Channel) : (s.setChan n x).arbs = s.arbs := rfl
@[simp] theorem State.setChan_refresh (s : State) (n : ChanNo) (x : Channel) : (s.setChan n x).refresh = s.refresh := rfl
@[simp] theorem State.setChan_tick (s : State) (n : ChanNo) (x : Channel) : (s.setChan n x).tick = s.tick := rfl
@[simp] theorem State.setChan_fill (s : State) (n : ChanNo) (x : Channel) : (s.setChan n x).fill = s.fill := rfl
@[simp] theorem State.setChan_scrub (s : State) (n : ChanNo) (x : Channel) : (s.setChan n x).scrub = s.scrub := rfl
@[simp] theorem State.setChan_override (s : State) (n : ChanNo) (x : Channel) : (s.setChan n x).override = s.override := rfl
@[simp] theorem State.setChan_host (s : State) (n : ChanNo) (x : Channel) : (s.setChan n x).host = s.host := rfl
@[simp] theorem State.setChan_command (s : State) (n : ChanNo) (x : Channel) : (s.setChan n x).command = s.command := rfl
@[simp] theorem State.setChan_arg (s : State) (n : ChanNo) (x : Channel) : (s.setChan n x).arg = s.arg := rfl
@[simp] theorem State.setChan_cmdStatus (s : State) (n : ChanNo) (x : Channel) : (s.setChan n x).cmdStatus = s.cmdStatus := rfl
@[simp] theorem State.setChan_stream (s : State) (n : ChanNo) (x : Channel) : (s.setChan n x).stream = s.stream := rfl
@[simp] theorem State.setChan_retention (s : State) (n : ChanNo) (x : Channel) : (s.setChan n x).retention = s.retention := rfl
@[simp] theorem State.setChan_log (s : State) (n : ChanNo) (x : Channel) : (s.setChan n x).log = s.log := rfl
@[simp] theorem State.setChan_events (s : State) (n : ChanNo) (x : Channel) : (s.setChan n x).events = s.events := rfl
@[simp] theorem State.setChan_ties (s : State) (n : ChanNo) (x : Channel) : (s.setChan n x).ties = s.ties := rfl
@[simp] theorem State.setChan_word (s : State) (n : ChanNo) (x : Channel) (w' : WordAddr) : (s.setChan n x).word w' = s.word w' := rfl
@[simp] theorem State.setChan_group (s : State) (n : ChanNo) (x : Channel) (g' : Nat) : (s.setChan n x).group g' = s.group g' := rfl
@[simp] theorem State.setChan_bank (s : State) (n : ChanNo) (x : Channel) (b' : BankNo) : (s.setChan n x).bank b' = s.bank b' := rfl
@[simp] theorem State.setChan_arb (s : State) (n : ChanNo) (x : Channel) (b' : BankNo) : (s.setChan n x).arb b' = s.arb b' := rfl
@[simp] theorem State.setChan_account (s : State) (n : ChanNo) (x : Channel) (b' : BankNo) : (s.setChan n x).account b' = s.account b' := rfl

@[simp] theorem State.raise_pending (s : State) (e : Event) : (s.raise e).pending = s.pending := rfl
@[simp] theorem State.raise_resetAsserted (s : State) (e : Event) : (s.raise e).resetAsserted = s.resetAsserted := rfl
@[simp] theorem State.raise_array (s : State) (e : Event) : (s.raise e).array = s.array := rfl
@[simp] theorem State.raise_groups (s : State) (e : Event) : (s.raise e).groups = s.groups := rfl
@[simp] theorem State.raise_config (s : State) (e : Event) : (s.raise e).config = s.config := rfl
@[simp] theorem State.raise_fitted (s : State) (e : Event) : (s.raise e).fitted = s.fitted := rfl
@[simp] theorem State.raise_timing (s : State) (e : Event) : (s.raise e).timing = s.timing := rfl
@[simp] theorem State.raise_banks (s : State) (e : Event) : (s.raise e).banks = s.banks := rfl
@[simp] theorem State.raise_arbs (s : State) (e : Event) : (s.raise e).arbs = s.arbs := rfl
@[simp] theorem State.raise_refresh (s : State) (e : Event) : (s.raise e).refresh = s.refresh := rfl
@[simp] theorem State.raise_tick (s : State) (e : Event) : (s.raise e).tick = s.tick := rfl
@[simp] theorem State.raise_fill (s : State) (e : Event) : (s.raise e).fill = s.fill := rfl
@[simp] theorem State.raise_scrub (s : State) (e : Event) : (s.raise e).scrub = s.scrub := rfl
@[simp] theorem State.raise_override (s : State) (e : Event) : (s.raise e).override = s.override := rfl
@[simp] theorem State.raise_host (s : State) (e : Event) : (s.raise e).host = s.host := rfl
@[simp] theorem State.raise_command (s : State) (e : Event) : (s.raise e).command = s.command := rfl
@[simp] theorem State.raise_arg (s : State) (e : Event) : (s.raise e).arg = s.arg := rfl
@[simp] theorem State.raise_cmdStatus (s : State) (e : Event) : (s.raise e).cmdStatus = s.cmdStatus := rfl
@[simp] theorem State.raise_chans (s : State) (e : Event) : (s.raise e).chans = s.chans := rfl
@[simp] theorem State.raise_stream (s : State) (e : Event) : (s.raise e).stream = s.stream := rfl
@[simp] theorem State.raise_retention (s : State) (e : Event) : (s.raise e).retention = s.retention := rfl
@[simp] theorem State.raise_log (s : State) (e : Event) : (s.raise e).log = s.log := rfl
@[simp] theorem State.raise_ties (s : State) (e : Event) : (s.raise e).ties = s.ties := rfl
@[simp] theorem State.raise_word (s : State) (e : Event) (w' : WordAddr) : (s.raise e).word w' = s.word w' := rfl
@[simp] theorem State.raise_group (s : State) (e : Event) (g' : Nat) : (s.raise e).group g' = s.group g' := rfl
@[simp] theorem State.raise_bank (s : State) (e : Event) (b' : BankNo) : (s.raise e).bank b' = s.bank b' := rfl
@[simp] theorem State.raise_arb (s : State) (e : Event) (b' : BankNo) : (s.raise e).arb b' = s.arb b' := rfl
@[simp] theorem State.raise_account (s : State) (e : Event) (b' : BankNo) : (s.raise e).account b' = s.account b' := rfl
@[simp] theorem State.raise_chan (s : State) (e : Event) (n' : ChanNo) : (s.raise e).chan n' = s.chan n' := rfl

@[simp] theorem State.endCycle_pending (s : State) (e : BusEnd) : (s.endCycle e).pending = s.pending := rfl
@[simp] theorem State.endCycle_resetAsserted (s : State) (e : BusEnd) : (s.endCycle e).resetAsserted = s.resetAsserted := rfl
@[simp] theorem State.endCycle_array (s : State) (e : BusEnd) : (s.endCycle e).array = s.array := rfl
@[simp] theorem State.endCycle_groups (s : State) (e : BusEnd) : (s.endCycle e).groups = s.groups := rfl
@[simp] theorem State.endCycle_config (s : State) (e : BusEnd) : (s.endCycle e).config = s.config := rfl
@[simp] theorem State.endCycle_fitted (s : State) (e : BusEnd) : (s.endCycle e).fitted = s.fitted := rfl
@[simp] theorem State.endCycle_timing (s : State) (e : BusEnd) : (s.endCycle e).timing = s.timing := rfl
@[simp] theorem State.endCycle_banks (s : State) (e : BusEnd) : (s.endCycle e).banks = s.banks := rfl
@[simp] theorem State.endCycle_arbs (s : State) (e : BusEnd) : (s.endCycle e).arbs = s.arbs := rfl
@[simp] theorem State.endCycle_refresh (s : State) (e : BusEnd) : (s.endCycle e).refresh = s.refresh := rfl
@[simp] theorem State.endCycle_tick (s : State) (e : BusEnd) : (s.endCycle e).tick = s.tick := rfl
@[simp] theorem State.endCycle_fill (s : State) (e : BusEnd) : (s.endCycle e).fill = s.fill := rfl
@[simp] theorem State.endCycle_scrub (s : State) (e : BusEnd) : (s.endCycle e).scrub = s.scrub := rfl
@[simp] theorem State.endCycle_override (s : State) (e : BusEnd) : (s.endCycle e).override = s.override := rfl
@[simp] theorem State.endCycle_command (s : State) (e : BusEnd) : (s.endCycle e).command = s.command := rfl
@[simp] theorem State.endCycle_arg (s : State) (e : BusEnd) : (s.endCycle e).arg = s.arg := rfl
@[simp] theorem State.endCycle_cmdStatus (s : State) (e : BusEnd) : (s.endCycle e).cmdStatus = s.cmdStatus := rfl
@[simp] theorem State.endCycle_chans (s : State) (e : BusEnd) : (s.endCycle e).chans = s.chans := rfl
@[simp] theorem State.endCycle_stream (s : State) (e : BusEnd) : (s.endCycle e).stream = s.stream := rfl
@[simp] theorem State.endCycle_retention (s : State) (e : BusEnd) : (s.endCycle e).retention = s.retention := rfl
@[simp] theorem State.endCycle_log (s : State) (e : BusEnd) : (s.endCycle e).log = s.log := rfl
@[simp] theorem State.endCycle_events (s : State) (e : BusEnd) : (s.endCycle e).events = s.events := rfl
@[simp] theorem State.endCycle_ties (s : State) (e : BusEnd) : (s.endCycle e).ties = s.ties := rfl
@[simp] theorem State.endCycle_word (s : State) (e : BusEnd) (w' : WordAddr) : (s.endCycle e).word w' = s.word w' := rfl
@[simp] theorem State.endCycle_group (s : State) (e : BusEnd) (g' : Nat) : (s.endCycle e).group g' = s.group g' := rfl
@[simp] theorem State.endCycle_bank (s : State) (e : BusEnd) (b' : BankNo) : (s.endCycle e).bank b' = s.bank b' := rfl
@[simp] theorem State.endCycle_arb (s : State) (e : BusEnd) (b' : BankNo) : (s.endCycle e).arb b' = s.arb b' := rfl
@[simp] theorem State.endCycle_account (s : State) (e : BusEnd) (b' : BankNo) : (s.endCycle e).account b' = s.account b' := rfl
@[simp] theorem State.endCycle_chan (s : State) (e : BusEnd) (n' : ChanNo) : (s.endCycle e).chan n' = s.chan n' := rfl

@[simp] theorem State.holdCycle_pending (s : State) (c : Cycle) : (s.holdCycle c).pending = s.pending := rfl
@[simp] theorem State.holdCycle_resetAsserted (s : State) (c : Cycle) : (s.holdCycle c).resetAsserted = s.resetAsserted := rfl
@[simp] theorem State.holdCycle_array (s : State) (c : Cycle) : (s.holdCycle c).array = s.array := rfl
@[simp] theorem State.holdCycle_groups (s : State) (c : Cycle) : (s.holdCycle c).groups = s.groups := rfl
@[simp] theorem State.holdCycle_config (s : State) (c : Cycle) : (s.holdCycle c).config = s.config := rfl
@[simp] theorem State.holdCycle_fitted (s : State) (c : Cycle) : (s.holdCycle c).fitted = s.fitted := rfl
@[simp] theorem State.holdCycle_timing (s : State) (c : Cycle) : (s.holdCycle c).timing = s.timing := rfl
@[simp] theorem State.holdCycle_banks (s : State) (c : Cycle) : (s.holdCycle c).banks = s.banks := rfl
@[simp] theorem State.holdCycle_arbs (s : State) (c : Cycle) : (s.holdCycle c).arbs = s.arbs := rfl
@[simp] theorem State.holdCycle_refresh (s : State) (c : Cycle) : (s.holdCycle c).refresh = s.refresh := rfl
@[simp] theorem State.holdCycle_tick (s : State) (c : Cycle) : (s.holdCycle c).tick = s.tick := rfl
@[simp] theorem State.holdCycle_fill (s : State) (c : Cycle) : (s.holdCycle c).fill = s.fill := rfl
@[simp] theorem State.holdCycle_scrub (s : State) (c : Cycle) : (s.holdCycle c).scrub = s.scrub := rfl
@[simp] theorem State.holdCycle_override (s : State) (c : Cycle) : (s.holdCycle c).override = s.override := rfl
@[simp] theorem State.holdCycle_command (s : State) (c : Cycle) : (s.holdCycle c).command = s.command := rfl
@[simp] theorem State.holdCycle_arg (s : State) (c : Cycle) : (s.holdCycle c).arg = s.arg := rfl
@[simp] theorem State.holdCycle_cmdStatus (s : State) (c : Cycle) : (s.holdCycle c).cmdStatus = s.cmdStatus := rfl
@[simp] theorem State.holdCycle_chans (s : State) (c : Cycle) : (s.holdCycle c).chans = s.chans := rfl
@[simp] theorem State.holdCycle_stream (s : State) (c : Cycle) : (s.holdCycle c).stream = s.stream := rfl
@[simp] theorem State.holdCycle_retention (s : State) (c : Cycle) : (s.holdCycle c).retention = s.retention := rfl
@[simp] theorem State.holdCycle_log (s : State) (c : Cycle) : (s.holdCycle c).log = s.log := rfl
@[simp] theorem State.holdCycle_events (s : State) (c : Cycle) : (s.holdCycle c).events = s.events := rfl
@[simp] theorem State.holdCycle_ties (s : State) (c : Cycle) : (s.holdCycle c).ties = s.ties := rfl
@[simp] theorem State.holdCycle_word (s : State) (c : Cycle) (w' : WordAddr) : (s.holdCycle c).word w' = s.word w' := rfl
@[simp] theorem State.holdCycle_group (s : State) (c : Cycle) (g' : Nat) : (s.holdCycle c).group g' = s.group g' := rfl
@[simp] theorem State.holdCycle_bank (s : State) (c : Cycle) (b' : BankNo) : (s.holdCycle c).bank b' = s.bank b' := rfl
@[simp] theorem State.holdCycle_arb (s : State) (c : Cycle) (b' : BankNo) : (s.holdCycle c).arb b' = s.arb b' := rfl
@[simp] theorem State.holdCycle_account (s : State) (c : Cycle) (b' : BankNo) : (s.holdCycle c).account b' = s.account b' := rfl
@[simp] theorem State.holdCycle_chan (s : State) (c : Cycle) (n' : ChanNo) : (s.holdCycle c).chan n' = s.chan n' := rfl

@[simp] theorem State.setRetention_pending (s : State) (x : RetentionState) : (s.setRetention x).pending = s.pending := rfl
@[simp] theorem State.setRetention_resetAsserted (s : State) (x : RetentionState) : (s.setRetention x).resetAsserted = s.resetAsserted := rfl
@[simp] theorem State.setRetention_array (s : State) (x : RetentionState) : (s.setRetention x).array = s.array := rfl
@[simp] theorem State.setRetention_groups (s : State) (x : RetentionState) : (s.setRetention x).groups = s.groups := rfl
@[simp] theorem State.setRetention_config (s : State) (x : RetentionState) : (s.setRetention x).config = s.config := rfl
@[simp] theorem State.setRetention_fitted (s : State) (x : RetentionState) : (s.setRetention x).fitted = s.fitted := rfl
@[simp] theorem State.setRetention_timing (s : State) (x : RetentionState) : (s.setRetention x).timing = s.timing := rfl
@[simp] theorem State.setRetention_banks (s : State) (x : RetentionState) : (s.setRetention x).banks = s.banks := rfl
@[simp] theorem State.setRetention_arbs (s : State) (x : RetentionState) : (s.setRetention x).arbs = s.arbs := rfl
@[simp] theorem State.setRetention_refresh (s : State) (x : RetentionState) : (s.setRetention x).refresh = s.refresh := rfl
@[simp] theorem State.setRetention_tick (s : State) (x : RetentionState) : (s.setRetention x).tick = s.tick := rfl
@[simp] theorem State.setRetention_fill (s : State) (x : RetentionState) : (s.setRetention x).fill = s.fill := rfl
@[simp] theorem State.setRetention_scrub (s : State) (x : RetentionState) : (s.setRetention x).scrub = s.scrub := rfl
@[simp] theorem State.setRetention_override (s : State) (x : RetentionState) : (s.setRetention x).override = s.override := rfl
@[simp] theorem State.setRetention_host (s : State) (x : RetentionState) : (s.setRetention x).host = s.host := rfl
@[simp] theorem State.setRetention_command (s : State) (x : RetentionState) : (s.setRetention x).command = s.command := rfl
@[simp] theorem State.setRetention_arg (s : State) (x : RetentionState) : (s.setRetention x).arg = s.arg := rfl
@[simp] theorem State.setRetention_cmdStatus (s : State) (x : RetentionState) : (s.setRetention x).cmdStatus = s.cmdStatus := rfl
@[simp] theorem State.setRetention_chans (s : State) (x : RetentionState) : (s.setRetention x).chans = s.chans := rfl
@[simp] theorem State.setRetention_stream (s : State) (x : RetentionState) : (s.setRetention x).stream = s.stream := rfl
@[simp] theorem State.setRetention_log (s : State) (x : RetentionState) : (s.setRetention x).log = s.log := rfl
@[simp] theorem State.setRetention_events (s : State) (x : RetentionState) : (s.setRetention x).events = s.events := rfl
@[simp] theorem State.setRetention_ties (s : State) (x : RetentionState) : (s.setRetention x).ties = s.ties := rfl
@[simp] theorem State.setRetention_word (s : State) (x : RetentionState) (w' : WordAddr) : (s.setRetention x).word w' = s.word w' := rfl
@[simp] theorem State.setRetention_group (s : State) (x : RetentionState) (g' : Nat) : (s.setRetention x).group g' = s.group g' := rfl
@[simp] theorem State.setRetention_bank (s : State) (x : RetentionState) (b' : BankNo) : (s.setRetention x).bank b' = s.bank b' := rfl
@[simp] theorem State.setRetention_arb (s : State) (x : RetentionState) (b' : BankNo) : (s.setRetention x).arb b' = s.arb b' := rfl
@[simp] theorem State.setRetention_account (s : State) (x : RetentionState) (b' : BankNo) : (s.setRetention x).account b' = s.account b' := rfl
@[simp] theorem State.setRetention_chan (s : State) (x : RetentionState) (n' : ChanNo) : (s.setRetention x).chan n' = s.chan n' := rfl

@[simp] theorem State.reportSettled_pending (s : State) : s.reportSettled.pending = s.pending := rfl
@[simp] theorem State.reportSettled_resetAsserted (s : State) : s.reportSettled.resetAsserted = s.resetAsserted := rfl
@[simp] theorem State.reportSettled_array (s : State) : s.reportSettled.array = s.array := rfl
@[simp] theorem State.reportSettled_groups (s : State) : s.reportSettled.groups = s.groups := rfl
@[simp] theorem State.reportSettled_config (s : State) : s.reportSettled.config = s.config := rfl
@[simp] theorem State.reportSettled_fitted (s : State) : s.reportSettled.fitted = s.fitted := rfl
@[simp] theorem State.reportSettled_timing (s : State) : s.reportSettled.timing = s.timing := rfl
@[simp] theorem State.reportSettled_banks (s : State) : s.reportSettled.banks = s.banks := rfl
@[simp] theorem State.reportSettled_arbs (s : State) : s.reportSettled.arbs = s.arbs := rfl
@[simp] theorem State.reportSettled_refresh (s : State) : s.reportSettled.refresh = s.refresh := rfl
@[simp] theorem State.reportSettled_tick (s : State) : s.reportSettled.tick = s.tick := rfl
@[simp] theorem State.reportSettled_fill (s : State) : s.reportSettled.fill = s.fill := rfl
@[simp] theorem State.reportSettled_scrub (s : State) : s.reportSettled.scrub = s.scrub := rfl
@[simp] theorem State.reportSettled_override (s : State) : s.reportSettled.override = s.override := rfl
@[simp] theorem State.reportSettled_host (s : State) : s.reportSettled.host = s.host := rfl
@[simp] theorem State.reportSettled_command (s : State) : s.reportSettled.command = s.command := rfl
@[simp] theorem State.reportSettled_arg (s : State) : s.reportSettled.arg = s.arg := rfl
@[simp] theorem State.reportSettled_cmdStatus (s : State) : s.reportSettled.cmdStatus = s.cmdStatus := rfl
@[simp] theorem State.reportSettled_chans (s : State) : s.reportSettled.chans = s.chans := rfl
@[simp] theorem State.reportSettled_stream (s : State) : s.reportSettled.stream = s.stream := rfl
@[simp] theorem State.reportSettled_log (s : State) : s.reportSettled.log = s.log := rfl
@[simp] theorem State.reportSettled_events (s : State) : s.reportSettled.events = s.events := rfl
@[simp] theorem State.reportSettled_ties (s : State) : s.reportSettled.ties = s.ties := rfl
@[simp] theorem State.reportSettled_word (s : State) (w' : WordAddr) : s.reportSettled.word w' = s.word w' := rfl
@[simp] theorem State.reportSettled_group (s : State) (g' : Nat) : s.reportSettled.group g' = s.group g' := rfl
@[simp] theorem State.reportSettled_bank (s : State) (b' : BankNo) : s.reportSettled.bank b' = s.bank b' := rfl
@[simp] theorem State.reportSettled_arb (s : State) (b' : BankNo) : s.reportSettled.arb b' = s.arb b' := rfl
@[simp] theorem State.reportSettled_account (s : State) (b' : BankNo) : s.reportSettled.account b' = s.account b' := rfl
@[simp] theorem State.reportSettled_chan (s : State) (n' : ChanNo) : s.reportSettled.chan n' = s.chan n' := rfl

@[simp] theorem State.setScrub_pending (s : State) (x : ScrubState) : (s.setScrub x).pending = s.pending := rfl
@[simp] theorem State.setScrub_resetAsserted (s : State) (x : ScrubState) : (s.setScrub x).resetAsserted = s.resetAsserted := rfl
@[simp] theorem State.setScrub_array (s : State) (x : ScrubState) : (s.setScrub x).array = s.array := rfl
@[simp] theorem State.setScrub_groups (s : State) (x : ScrubState) : (s.setScrub x).groups = s.groups := rfl
@[simp] theorem State.setScrub_config (s : State) (x : ScrubState) : (s.setScrub x).config = s.config := rfl
@[simp] theorem State.setScrub_fitted (s : State) (x : ScrubState) : (s.setScrub x).fitted = s.fitted := rfl
@[simp] theorem State.setScrub_timing (s : State) (x : ScrubState) : (s.setScrub x).timing = s.timing := rfl
@[simp] theorem State.setScrub_banks (s : State) (x : ScrubState) : (s.setScrub x).banks = s.banks := rfl
@[simp] theorem State.setScrub_arbs (s : State) (x : ScrubState) : (s.setScrub x).arbs = s.arbs := rfl
@[simp] theorem State.setScrub_refresh (s : State) (x : ScrubState) : (s.setScrub x).refresh = s.refresh := rfl
@[simp] theorem State.setScrub_tick (s : State) (x : ScrubState) : (s.setScrub x).tick = s.tick := rfl
@[simp] theorem State.setScrub_fill (s : State) (x : ScrubState) : (s.setScrub x).fill = s.fill := rfl
@[simp] theorem State.setScrub_override (s : State) (x : ScrubState) : (s.setScrub x).override = s.override := rfl
@[simp] theorem State.setScrub_host (s : State) (x : ScrubState) : (s.setScrub x).host = s.host := rfl
@[simp] theorem State.setScrub_command (s : State) (x : ScrubState) : (s.setScrub x).command = s.command := rfl
@[simp] theorem State.setScrub_arg (s : State) (x : ScrubState) : (s.setScrub x).arg = s.arg := rfl
@[simp] theorem State.setScrub_cmdStatus (s : State) (x : ScrubState) : (s.setScrub x).cmdStatus = s.cmdStatus := rfl
@[simp] theorem State.setScrub_chans (s : State) (x : ScrubState) : (s.setScrub x).chans = s.chans := rfl
@[simp] theorem State.setScrub_stream (s : State) (x : ScrubState) : (s.setScrub x).stream = s.stream := rfl
@[simp] theorem State.setScrub_retention (s : State) (x : ScrubState) : (s.setScrub x).retention = s.retention := rfl
@[simp] theorem State.setScrub_log (s : State) (x : ScrubState) : (s.setScrub x).log = s.log := rfl
@[simp] theorem State.setScrub_events (s : State) (x : ScrubState) : (s.setScrub x).events = s.events := rfl
@[simp] theorem State.setScrub_ties (s : State) (x : ScrubState) : (s.setScrub x).ties = s.ties := rfl
@[simp] theorem State.setScrub_word (s : State) (x : ScrubState) (w' : WordAddr) : (s.setScrub x).word w' = s.word w' := rfl
@[simp] theorem State.setScrub_group (s : State) (x : ScrubState) (g' : Nat) : (s.setScrub x).group g' = s.group g' := rfl
@[simp] theorem State.setScrub_bank (s : State) (x : ScrubState) (b' : BankNo) : (s.setScrub x).bank b' = s.bank b' := rfl
@[simp] theorem State.setScrub_arb (s : State) (x : ScrubState) (b' : BankNo) : (s.setScrub x).arb b' = s.arb b' := rfl
@[simp] theorem State.setScrub_account (s : State) (x : ScrubState) (b' : BankNo) : (s.setScrub x).account b' = s.account b' := rfl
@[simp] theorem State.setScrub_chan (s : State) (x : ScrubState) (n' : ChanNo) : (s.setScrub x).chan n' = s.chan n' := rfl

@[simp] theorem State.setSrq_pending (s : State) (n : ChanNo) (level : Bool) : (s.setSrq n level).pending = s.pending := rfl
@[simp] theorem State.setSrq_resetAsserted (s : State) (n : ChanNo) (level : Bool) : (s.setSrq n level).resetAsserted = s.resetAsserted := rfl
@[simp] theorem State.setSrq_array (s : State) (n : ChanNo) (level : Bool) : (s.setSrq n level).array = s.array := rfl
@[simp] theorem State.setSrq_groups (s : State) (n : ChanNo) (level : Bool) : (s.setSrq n level).groups = s.groups := rfl
@[simp] theorem State.setSrq_config (s : State) (n : ChanNo) (level : Bool) : (s.setSrq n level).config = s.config := rfl
@[simp] theorem State.setSrq_fitted (s : State) (n : ChanNo) (level : Bool) : (s.setSrq n level).fitted = s.fitted := rfl
@[simp] theorem State.setSrq_timing (s : State) (n : ChanNo) (level : Bool) : (s.setSrq n level).timing = s.timing := rfl
@[simp] theorem State.setSrq_banks (s : State) (n : ChanNo) (level : Bool) : (s.setSrq n level).banks = s.banks := rfl
@[simp] theorem State.setSrq_arbs (s : State) (n : ChanNo) (level : Bool) : (s.setSrq n level).arbs = s.arbs := rfl
@[simp] theorem State.setSrq_refresh (s : State) (n : ChanNo) (level : Bool) : (s.setSrq n level).refresh = s.refresh := rfl
@[simp] theorem State.setSrq_tick (s : State) (n : ChanNo) (level : Bool) : (s.setSrq n level).tick = s.tick := rfl
@[simp] theorem State.setSrq_fill (s : State) (n : ChanNo) (level : Bool) : (s.setSrq n level).fill = s.fill := rfl
@[simp] theorem State.setSrq_scrub (s : State) (n : ChanNo) (level : Bool) : (s.setSrq n level).scrub = s.scrub := rfl
@[simp] theorem State.setSrq_override (s : State) (n : ChanNo) (level : Bool) : (s.setSrq n level).override = s.override := rfl
@[simp] theorem State.setSrq_host (s : State) (n : ChanNo) (level : Bool) : (s.setSrq n level).host = s.host := rfl
@[simp] theorem State.setSrq_command (s : State) (n : ChanNo) (level : Bool) : (s.setSrq n level).command = s.command := rfl
@[simp] theorem State.setSrq_arg (s : State) (n : ChanNo) (level : Bool) : (s.setSrq n level).arg = s.arg := rfl
@[simp] theorem State.setSrq_cmdStatus (s : State) (n : ChanNo) (level : Bool) : (s.setSrq n level).cmdStatus = s.cmdStatus := rfl
@[simp] theorem State.setSrq_chans (s : State) (n : ChanNo) (level : Bool) : (s.setSrq n level).chans = s.chans := rfl
@[simp] theorem State.setSrq_retention (s : State) (n : ChanNo) (level : Bool) : (s.setSrq n level).retention = s.retention := rfl
@[simp] theorem State.setSrq_log (s : State) (n : ChanNo) (level : Bool) : (s.setSrq n level).log = s.log := rfl
@[simp] theorem State.setSrq_events (s : State) (n : ChanNo) (level : Bool) : (s.setSrq n level).events = s.events := rfl
@[simp] theorem State.setSrq_ties (s : State) (n : ChanNo) (level : Bool) : (s.setSrq n level).ties = s.ties := rfl
@[simp] theorem State.setSrq_word (s : State) (n : ChanNo) (level : Bool) (w' : WordAddr) : (s.setSrq n level).word w' = s.word w' := rfl
@[simp] theorem State.setSrq_group (s : State) (n : ChanNo) (level : Bool) (g' : Nat) : (s.setSrq n level).group g' = s.group g' := rfl
@[simp] theorem State.setSrq_bank (s : State) (n : ChanNo) (level : Bool) (b' : BankNo) : (s.setSrq n level).bank b' = s.bank b' := rfl
@[simp] theorem State.setSrq_arb (s : State) (n : ChanNo) (level : Bool) (b' : BankNo) : (s.setSrq n level).arb b' = s.arb b' := rfl
@[simp] theorem State.setSrq_account (s : State) (n : ChanNo) (level : Bool) (b' : BankNo) : (s.setSrq n level).account b' = s.account b' := rfl
@[simp] theorem State.setSrq_chan (s : State) (n : ChanNo) (level : Bool) (n' : ChanNo) : (s.setSrq n level).chan n' = s.chan n' := rfl

@[simp] theorem State.setBalance_pending (s : State) (b : BankNo) (balance : Int) (cursor : BitVec 8) : (s.setBalance b balance cursor).pending = s.pending := rfl
@[simp] theorem State.setBalance_resetAsserted (s : State) (b : BankNo) (balance : Int) (cursor : BitVec 8) : (s.setBalance b balance cursor).resetAsserted = s.resetAsserted := rfl
@[simp] theorem State.setBalance_array (s : State) (b : BankNo) (balance : Int) (cursor : BitVec 8) : (s.setBalance b balance cursor).array = s.array := rfl
@[simp] theorem State.setBalance_groups (s : State) (b : BankNo) (balance : Int) (cursor : BitVec 8) : (s.setBalance b balance cursor).groups = s.groups := rfl
@[simp] theorem State.setBalance_config (s : State) (b : BankNo) (balance : Int) (cursor : BitVec 8) : (s.setBalance b balance cursor).config = s.config := rfl
@[simp] theorem State.setBalance_fitted (s : State) (b : BankNo) (balance : Int) (cursor : BitVec 8) : (s.setBalance b balance cursor).fitted = s.fitted := rfl
@[simp] theorem State.setBalance_timing (s : State) (b : BankNo) (balance : Int) (cursor : BitVec 8) : (s.setBalance b balance cursor).timing = s.timing := rfl
@[simp] theorem State.setBalance_banks (s : State) (b : BankNo) (balance : Int) (cursor : BitVec 8) : (s.setBalance b balance cursor).banks = s.banks := rfl
@[simp] theorem State.setBalance_arbs (s : State) (b : BankNo) (balance : Int) (cursor : BitVec 8) : (s.setBalance b balance cursor).arbs = s.arbs := rfl
@[simp] theorem State.setBalance_tick (s : State) (b : BankNo) (balance : Int) (cursor : BitVec 8) : (s.setBalance b balance cursor).tick = s.tick := rfl
@[simp] theorem State.setBalance_fill (s : State) (b : BankNo) (balance : Int) (cursor : BitVec 8) : (s.setBalance b balance cursor).fill = s.fill := rfl
@[simp] theorem State.setBalance_scrub (s : State) (b : BankNo) (balance : Int) (cursor : BitVec 8) : (s.setBalance b balance cursor).scrub = s.scrub := rfl
@[simp] theorem State.setBalance_override (s : State) (b : BankNo) (balance : Int) (cursor : BitVec 8) : (s.setBalance b balance cursor).override = s.override := rfl
@[simp] theorem State.setBalance_host (s : State) (b : BankNo) (balance : Int) (cursor : BitVec 8) : (s.setBalance b balance cursor).host = s.host := rfl
@[simp] theorem State.setBalance_command (s : State) (b : BankNo) (balance : Int) (cursor : BitVec 8) : (s.setBalance b balance cursor).command = s.command := rfl
@[simp] theorem State.setBalance_arg (s : State) (b : BankNo) (balance : Int) (cursor : BitVec 8) : (s.setBalance b balance cursor).arg = s.arg := rfl
@[simp] theorem State.setBalance_cmdStatus (s : State) (b : BankNo) (balance : Int) (cursor : BitVec 8) : (s.setBalance b balance cursor).cmdStatus = s.cmdStatus := rfl
@[simp] theorem State.setBalance_chans (s : State) (b : BankNo) (balance : Int) (cursor : BitVec 8) : (s.setBalance b balance cursor).chans = s.chans := rfl
@[simp] theorem State.setBalance_stream (s : State) (b : BankNo) (balance : Int) (cursor : BitVec 8) : (s.setBalance b balance cursor).stream = s.stream := rfl
@[simp] theorem State.setBalance_retention (s : State) (b : BankNo) (balance : Int) (cursor : BitVec 8) : (s.setBalance b balance cursor).retention = s.retention := rfl
@[simp] theorem State.setBalance_log (s : State) (b : BankNo) (balance : Int) (cursor : BitVec 8) : (s.setBalance b balance cursor).log = s.log := rfl
@[simp] theorem State.setBalance_events (s : State) (b : BankNo) (balance : Int) (cursor : BitVec 8) : (s.setBalance b balance cursor).events = s.events := rfl
@[simp] theorem State.setBalance_ties (s : State) (b : BankNo) (balance : Int) (cursor : BitVec 8) : (s.setBalance b balance cursor).ties = s.ties := rfl
@[simp] theorem State.setBalance_word (s : State) (b : BankNo) (balance : Int) (cursor : BitVec 8) (w' : WordAddr) : (s.setBalance b balance cursor).word w' = s.word w' := rfl
@[simp] theorem State.setBalance_group (s : State) (b : BankNo) (balance : Int) (cursor : BitVec 8) (g' : Nat) : (s.setBalance b balance cursor).group g' = s.group g' := rfl
@[simp] theorem State.setBalance_bank (s : State) (b : BankNo) (balance : Int) (cursor : BitVec 8) (b' : BankNo) : (s.setBalance b balance cursor).bank b' = s.bank b' := rfl
@[simp] theorem State.setBalance_arb (s : State) (b : BankNo) (balance : Int) (cursor : BitVec 8) (b' : BankNo) : (s.setBalance b balance cursor).arb b' = s.arb b' := rfl
@[simp] theorem State.setBalance_chan (s : State) (b : BankNo) (balance : Int) (cursor : BitVec 8) (n' : ChanNo) : (s.setBalance b balance cursor).chan n' = s.chan n' := rfl

@[simp] theorem State.settleOne_pending (s : State) (b : BankNo) (d : Int) : (s.settleOne b d).pending = s.pending := rfl
@[simp] theorem State.settleOne_resetAsserted (s : State) (b : BankNo) (d : Int) : (s.settleOne b d).resetAsserted = s.resetAsserted := rfl
@[simp] theorem State.settleOne_array (s : State) (b : BankNo) (d : Int) : (s.settleOne b d).array = s.array := rfl
@[simp] theorem State.settleOne_groups (s : State) (b : BankNo) (d : Int) : (s.settleOne b d).groups = s.groups := rfl
@[simp] theorem State.settleOne_config (s : State) (b : BankNo) (d : Int) : (s.settleOne b d).config = s.config := rfl
@[simp] theorem State.settleOne_fitted (s : State) (b : BankNo) (d : Int) : (s.settleOne b d).fitted = s.fitted := rfl
@[simp] theorem State.settleOne_timing (s : State) (b : BankNo) (d : Int) : (s.settleOne b d).timing = s.timing := rfl
@[simp] theorem State.settleOne_banks (s : State) (b : BankNo) (d : Int) : (s.settleOne b d).banks = s.banks := rfl
@[simp] theorem State.settleOne_arbs (s : State) (b : BankNo) (d : Int) : (s.settleOne b d).arbs = s.arbs := rfl
@[simp] theorem State.settleOne_tick (s : State) (b : BankNo) (d : Int) : (s.settleOne b d).tick = s.tick := rfl
@[simp] theorem State.settleOne_fill (s : State) (b : BankNo) (d : Int) : (s.settleOne b d).fill = s.fill := rfl
@[simp] theorem State.settleOne_scrub (s : State) (b : BankNo) (d : Int) : (s.settleOne b d).scrub = s.scrub := rfl
@[simp] theorem State.settleOne_override (s : State) (b : BankNo) (d : Int) : (s.settleOne b d).override = s.override := rfl
@[simp] theorem State.settleOne_host (s : State) (b : BankNo) (d : Int) : (s.settleOne b d).host = s.host := rfl
@[simp] theorem State.settleOne_command (s : State) (b : BankNo) (d : Int) : (s.settleOne b d).command = s.command := rfl
@[simp] theorem State.settleOne_arg (s : State) (b : BankNo) (d : Int) : (s.settleOne b d).arg = s.arg := rfl
@[simp] theorem State.settleOne_cmdStatus (s : State) (b : BankNo) (d : Int) : (s.settleOne b d).cmdStatus = s.cmdStatus := rfl
@[simp] theorem State.settleOne_chans (s : State) (b : BankNo) (d : Int) : (s.settleOne b d).chans = s.chans := rfl
@[simp] theorem State.settleOne_stream (s : State) (b : BankNo) (d : Int) : (s.settleOne b d).stream = s.stream := rfl
@[simp] theorem State.settleOne_retention (s : State) (b : BankNo) (d : Int) : (s.settleOne b d).retention = s.retention := rfl
@[simp] theorem State.settleOne_log (s : State) (b : BankNo) (d : Int) : (s.settleOne b d).log = s.log := rfl
@[simp] theorem State.settleOne_events (s : State) (b : BankNo) (d : Int) : (s.settleOne b d).events = s.events := rfl
@[simp] theorem State.settleOne_ties (s : State) (b : BankNo) (d : Int) : (s.settleOne b d).ties = s.ties := rfl
@[simp] theorem State.settleOne_word (s : State) (b : BankNo) (d : Int) (w' : WordAddr) : (s.settleOne b d).word w' = s.word w' := rfl
@[simp] theorem State.settleOne_group (s : State) (b : BankNo) (d : Int) (g' : Nat) : (s.settleOne b d).group g' = s.group g' := rfl
@[simp] theorem State.settleOne_bank (s : State) (b : BankNo) (d : Int) (b' : BankNo) : (s.settleOne b d).bank b' = s.bank b' := rfl
@[simp] theorem State.settleOne_arb (s : State) (b : BankNo) (d : Int) (b' : BankNo) : (s.settleOne b d).arb b' = s.arb b' := rfl
@[simp] theorem State.settleOne_chan (s : State) (b : BankNo) (d : Int) (n' : ChanNo) : (s.settleOne b d).chan n' = s.chan n' := rfl

@[simp] theorem State.setGroupState_pending (s : State) (g : Nat) (st : GroupState) : (s.setGroupState g st).pending = s.pending := rfl
@[simp] theorem State.setGroupState_resetAsserted (s : State) (g : Nat) (st : GroupState) : (s.setGroupState g st).resetAsserted = s.resetAsserted := rfl
@[simp] theorem State.setGroupState_array (s : State) (g : Nat) (st : GroupState) : (s.setGroupState g st).array = s.array := rfl
@[simp] theorem State.setGroupState_config (s : State) (g : Nat) (st : GroupState) : (s.setGroupState g st).config = s.config := rfl
@[simp] theorem State.setGroupState_fitted (s : State) (g : Nat) (st : GroupState) : (s.setGroupState g st).fitted = s.fitted := rfl
@[simp] theorem State.setGroupState_timing (s : State) (g : Nat) (st : GroupState) : (s.setGroupState g st).timing = s.timing := rfl
@[simp] theorem State.setGroupState_banks (s : State) (g : Nat) (st : GroupState) : (s.setGroupState g st).banks = s.banks := rfl
@[simp] theorem State.setGroupState_arbs (s : State) (g : Nat) (st : GroupState) : (s.setGroupState g st).arbs = s.arbs := rfl
@[simp] theorem State.setGroupState_refresh (s : State) (g : Nat) (st : GroupState) : (s.setGroupState g st).refresh = s.refresh := rfl
@[simp] theorem State.setGroupState_tick (s : State) (g : Nat) (st : GroupState) : (s.setGroupState g st).tick = s.tick := rfl
@[simp] theorem State.setGroupState_fill (s : State) (g : Nat) (st : GroupState) : (s.setGroupState g st).fill = s.fill := rfl
@[simp] theorem State.setGroupState_scrub (s : State) (g : Nat) (st : GroupState) : (s.setGroupState g st).scrub = s.scrub := rfl
@[simp] theorem State.setGroupState_override (s : State) (g : Nat) (st : GroupState) : (s.setGroupState g st).override = s.override := rfl
@[simp] theorem State.setGroupState_host (s : State) (g : Nat) (st : GroupState) : (s.setGroupState g st).host = s.host := rfl
@[simp] theorem State.setGroupState_command (s : State) (g : Nat) (st : GroupState) : (s.setGroupState g st).command = s.command := rfl
@[simp] theorem State.setGroupState_arg (s : State) (g : Nat) (st : GroupState) : (s.setGroupState g st).arg = s.arg := rfl
@[simp] theorem State.setGroupState_cmdStatus (s : State) (g : Nat) (st : GroupState) : (s.setGroupState g st).cmdStatus = s.cmdStatus := rfl
@[simp] theorem State.setGroupState_chans (s : State) (g : Nat) (st : GroupState) : (s.setGroupState g st).chans = s.chans := rfl
@[simp] theorem State.setGroupState_stream (s : State) (g : Nat) (st : GroupState) : (s.setGroupState g st).stream = s.stream := rfl
@[simp] theorem State.setGroupState_retention (s : State) (g : Nat) (st : GroupState) : (s.setGroupState g st).retention = s.retention := rfl
@[simp] theorem State.setGroupState_log (s : State) (g : Nat) (st : GroupState) : (s.setGroupState g st).log = s.log := rfl
@[simp] theorem State.setGroupState_events (s : State) (g : Nat) (st : GroupState) : (s.setGroupState g st).events = s.events := rfl
@[simp] theorem State.setGroupState_ties (s : State) (g : Nat) (st : GroupState) : (s.setGroupState g st).ties = s.ties := rfl
@[simp] theorem State.setGroupState_word (s : State) (g : Nat) (st : GroupState) (w' : WordAddr) : (s.setGroupState g st).word w' = s.word w' := rfl
@[simp] theorem State.setGroupState_bank (s : State) (g : Nat) (st : GroupState) (b' : BankNo) : (s.setGroupState g st).bank b' = s.bank b' := rfl
@[simp] theorem State.setGroupState_arb (s : State) (g : Nat) (st : GroupState) (b' : BankNo) : (s.setGroupState g st).arb b' = s.arb b' := rfl
@[simp] theorem State.setGroupState_account (s : State) (g : Nat) (st : GroupState) (b' : BankNo) : (s.setGroupState g st).account b' = s.account b' := rfl
@[simp] theorem State.setGroupState_chan (s : State) (g : Nat) (st : GroupState) (n' : ChanNo) : (s.setGroupState g st).chan n' = s.chan n' := rfl

@[simp] theorem State.clearOp_pending (s : State) (b : BankNo) : (s.clearOp b).pending = s.pending := rfl
@[simp] theorem State.clearOp_resetAsserted (s : State) (b : BankNo) : (s.clearOp b).resetAsserted = s.resetAsserted := rfl
@[simp] theorem State.clearOp_array (s : State) (b : BankNo) : (s.clearOp b).array = s.array := rfl
@[simp] theorem State.clearOp_groups (s : State) (b : BankNo) : (s.clearOp b).groups = s.groups := rfl
@[simp] theorem State.clearOp_config (s : State) (b : BankNo) : (s.clearOp b).config = s.config := rfl
@[simp] theorem State.clearOp_fitted (s : State) (b : BankNo) : (s.clearOp b).fitted = s.fitted := rfl
@[simp] theorem State.clearOp_timing (s : State) (b : BankNo) : (s.clearOp b).timing = s.timing := rfl
@[simp] theorem State.clearOp_arbs (s : State) (b : BankNo) : (s.clearOp b).arbs = s.arbs := rfl
@[simp] theorem State.clearOp_refresh (s : State) (b : BankNo) : (s.clearOp b).refresh = s.refresh := rfl
@[simp] theorem State.clearOp_tick (s : State) (b : BankNo) : (s.clearOp b).tick = s.tick := rfl
@[simp] theorem State.clearOp_fill (s : State) (b : BankNo) : (s.clearOp b).fill = s.fill := rfl
@[simp] theorem State.clearOp_scrub (s : State) (b : BankNo) : (s.clearOp b).scrub = s.scrub := rfl
@[simp] theorem State.clearOp_override (s : State) (b : BankNo) : (s.clearOp b).override = s.override := rfl
@[simp] theorem State.clearOp_host (s : State) (b : BankNo) : (s.clearOp b).host = s.host := rfl
@[simp] theorem State.clearOp_command (s : State) (b : BankNo) : (s.clearOp b).command = s.command := rfl
@[simp] theorem State.clearOp_arg (s : State) (b : BankNo) : (s.clearOp b).arg = s.arg := rfl
@[simp] theorem State.clearOp_cmdStatus (s : State) (b : BankNo) : (s.clearOp b).cmdStatus = s.cmdStatus := rfl
@[simp] theorem State.clearOp_chans (s : State) (b : BankNo) : (s.clearOp b).chans = s.chans := rfl
@[simp] theorem State.clearOp_stream (s : State) (b : BankNo) : (s.clearOp b).stream = s.stream := rfl
@[simp] theorem State.clearOp_retention (s : State) (b : BankNo) : (s.clearOp b).retention = s.retention := rfl
@[simp] theorem State.clearOp_log (s : State) (b : BankNo) : (s.clearOp b).log = s.log := rfl
@[simp] theorem State.clearOp_events (s : State) (b : BankNo) : (s.clearOp b).events = s.events := rfl
@[simp] theorem State.clearOp_ties (s : State) (b : BankNo) : (s.clearOp b).ties = s.ties := rfl
@[simp] theorem State.clearOp_word (s : State) (b : BankNo) (w' : WordAddr) : (s.clearOp b).word w' = s.word w' := rfl
@[simp] theorem State.clearOp_group (s : State) (b : BankNo) (g' : Nat) : (s.clearOp b).group g' = s.group g' := rfl
@[simp] theorem State.clearOp_arb (s : State) (b : BankNo) (b' : BankNo) : (s.clearOp b).arb b' = s.arb b' := rfl
@[simp] theorem State.clearOp_account (s : State) (b : BankNo) (b' : BankNo) : (s.clearOp b).account b' = s.account b' := rfl
@[simp] theorem State.clearOp_chan (s : State) (b : BankNo) (n' : ChanNo) : (s.clearOp b).chan n' = s.chan n' := rfl

@[simp] theorem State.startColumn_pending (s : State) (b : BankNo) (kind : OpKind) (addr : WordAddr) (words : Nat) (payload : List Stored) : (s.startColumn b kind addr words payload).pending = s.pending := rfl
@[simp] theorem State.startColumn_resetAsserted (s : State) (b : BankNo) (kind : OpKind) (addr : WordAddr) (words : Nat) (payload : List Stored) : (s.startColumn b kind addr words payload).resetAsserted = s.resetAsserted := rfl
@[simp] theorem State.startColumn_array (s : State) (b : BankNo) (kind : OpKind) (addr : WordAddr) (words : Nat) (payload : List Stored) : (s.startColumn b kind addr words payload).array = s.array := rfl
@[simp] theorem State.startColumn_groups (s : State) (b : BankNo) (kind : OpKind) (addr : WordAddr) (words : Nat) (payload : List Stored) : (s.startColumn b kind addr words payload).groups = s.groups := rfl
@[simp] theorem State.startColumn_config (s : State) (b : BankNo) (kind : OpKind) (addr : WordAddr) (words : Nat) (payload : List Stored) : (s.startColumn b kind addr words payload).config = s.config := rfl
@[simp] theorem State.startColumn_fitted (s : State) (b : BankNo) (kind : OpKind) (addr : WordAddr) (words : Nat) (payload : List Stored) : (s.startColumn b kind addr words payload).fitted = s.fitted := rfl
@[simp] theorem State.startColumn_timing (s : State) (b : BankNo) (kind : OpKind) (addr : WordAddr) (words : Nat) (payload : List Stored) : (s.startColumn b kind addr words payload).timing = s.timing := rfl
@[simp] theorem State.startColumn_arbs (s : State) (b : BankNo) (kind : OpKind) (addr : WordAddr) (words : Nat) (payload : List Stored) : (s.startColumn b kind addr words payload).arbs = s.arbs := rfl
@[simp] theorem State.startColumn_refresh (s : State) (b : BankNo) (kind : OpKind) (addr : WordAddr) (words : Nat) (payload : List Stored) : (s.startColumn b kind addr words payload).refresh = s.refresh := rfl
@[simp] theorem State.startColumn_tick (s : State) (b : BankNo) (kind : OpKind) (addr : WordAddr) (words : Nat) (payload : List Stored) : (s.startColumn b kind addr words payload).tick = s.tick := rfl
@[simp] theorem State.startColumn_fill (s : State) (b : BankNo) (kind : OpKind) (addr : WordAddr) (words : Nat) (payload : List Stored) : (s.startColumn b kind addr words payload).fill = s.fill := rfl
@[simp] theorem State.startColumn_scrub (s : State) (b : BankNo) (kind : OpKind) (addr : WordAddr) (words : Nat) (payload : List Stored) : (s.startColumn b kind addr words payload).scrub = s.scrub := rfl
@[simp] theorem State.startColumn_override (s : State) (b : BankNo) (kind : OpKind) (addr : WordAddr) (words : Nat) (payload : List Stored) : (s.startColumn b kind addr words payload).override = s.override := rfl
@[simp] theorem State.startColumn_host (s : State) (b : BankNo) (kind : OpKind) (addr : WordAddr) (words : Nat) (payload : List Stored) : (s.startColumn b kind addr words payload).host = s.host := rfl
@[simp] theorem State.startColumn_command (s : State) (b : BankNo) (kind : OpKind) (addr : WordAddr) (words : Nat) (payload : List Stored) : (s.startColumn b kind addr words payload).command = s.command := rfl
@[simp] theorem State.startColumn_arg (s : State) (b : BankNo) (kind : OpKind) (addr : WordAddr) (words : Nat) (payload : List Stored) : (s.startColumn b kind addr words payload).arg = s.arg := rfl
@[simp] theorem State.startColumn_cmdStatus (s : State) (b : BankNo) (kind : OpKind) (addr : WordAddr) (words : Nat) (payload : List Stored) : (s.startColumn b kind addr words payload).cmdStatus = s.cmdStatus := rfl
@[simp] theorem State.startColumn_chans (s : State) (b : BankNo) (kind : OpKind) (addr : WordAddr) (words : Nat) (payload : List Stored) : (s.startColumn b kind addr words payload).chans = s.chans := rfl
@[simp] theorem State.startColumn_stream (s : State) (b : BankNo) (kind : OpKind) (addr : WordAddr) (words : Nat) (payload : List Stored) : (s.startColumn b kind addr words payload).stream = s.stream := rfl
@[simp] theorem State.startColumn_retention (s : State) (b : BankNo) (kind : OpKind) (addr : WordAddr) (words : Nat) (payload : List Stored) : (s.startColumn b kind addr words payload).retention = s.retention := rfl
@[simp] theorem State.startColumn_log (s : State) (b : BankNo) (kind : OpKind) (addr : WordAddr) (words : Nat) (payload : List Stored) : (s.startColumn b kind addr words payload).log = s.log := rfl
@[simp] theorem State.startColumn_events (s : State) (b : BankNo) (kind : OpKind) (addr : WordAddr) (words : Nat) (payload : List Stored) : (s.startColumn b kind addr words payload).events = s.events := rfl
@[simp] theorem State.startColumn_ties (s : State) (b : BankNo) (kind : OpKind) (addr : WordAddr) (words : Nat) (payload : List Stored) : (s.startColumn b kind addr words payload).ties = s.ties := rfl
@[simp] theorem State.startColumn_word (s : State) (b : BankNo) (kind : OpKind) (addr : WordAddr) (words : Nat) (payload : List Stored) (w' : WordAddr) : (s.startColumn b kind addr words payload).word w' = s.word w' := rfl
@[simp] theorem State.startColumn_group (s : State) (b : BankNo) (kind : OpKind) (addr : WordAddr) (words : Nat) (payload : List Stored) (g' : Nat) : (s.startColumn b kind addr words payload).group g' = s.group g' := rfl
@[simp] theorem State.startColumn_arb (s : State) (b : BankNo) (kind : OpKind) (addr : WordAddr) (words : Nat) (payload : List Stored) (b' : BankNo) : (s.startColumn b kind addr words payload).arb b' = s.arb b' := rfl
@[simp] theorem State.startColumn_account (s : State) (b : BankNo) (kind : OpKind) (addr : WordAddr) (words : Nat) (payload : List Stored) (b' : BankNo) : (s.startColumn b kind addr words payload).account b' = s.account b' := rfl
@[simp] theorem State.startColumn_chan (s : State) (b : BankNo) (kind : OpKind) (addr : WordAddr) (words : Nat) (payload : List Stored) (n' : ChanNo) : (s.startColumn b kind addr words payload).chan n' = s.chan n' := rfl

@[simp] theorem State.withdrawFill_pending (s : State) : s.withdrawFill.pending = s.pending := rfl
@[simp] theorem State.withdrawFill_resetAsserted (s : State) : s.withdrawFill.resetAsserted = s.resetAsserted := rfl
@[simp] theorem State.withdrawFill_array (s : State) : s.withdrawFill.array = s.array := rfl
@[simp] theorem State.withdrawFill_groups (s : State) : s.withdrawFill.groups = s.groups := rfl
@[simp] theorem State.withdrawFill_config (s : State) : s.withdrawFill.config = s.config := rfl
@[simp] theorem State.withdrawFill_fitted (s : State) : s.withdrawFill.fitted = s.fitted := rfl
@[simp] theorem State.withdrawFill_timing (s : State) : s.withdrawFill.timing = s.timing := rfl
@[simp] theorem State.withdrawFill_banks (s : State) : s.withdrawFill.banks = s.banks := rfl
@[simp] theorem State.withdrawFill_refresh (s : State) : s.withdrawFill.refresh = s.refresh := rfl
@[simp] theorem State.withdrawFill_tick (s : State) : s.withdrawFill.tick = s.tick := rfl
@[simp] theorem State.withdrawFill_fill (s : State) : s.withdrawFill.fill = s.fill := rfl
@[simp] theorem State.withdrawFill_scrub (s : State) : s.withdrawFill.scrub = s.scrub := rfl
@[simp] theorem State.withdrawFill_override (s : State) : s.withdrawFill.override = s.override := rfl
@[simp] theorem State.withdrawFill_host (s : State) : s.withdrawFill.host = s.host := rfl
@[simp] theorem State.withdrawFill_command (s : State) : s.withdrawFill.command = s.command := rfl
@[simp] theorem State.withdrawFill_arg (s : State) : s.withdrawFill.arg = s.arg := rfl
@[simp] theorem State.withdrawFill_cmdStatus (s : State) : s.withdrawFill.cmdStatus = s.cmdStatus := rfl
@[simp] theorem State.withdrawFill_chans (s : State) : s.withdrawFill.chans = s.chans := rfl
@[simp] theorem State.withdrawFill_stream (s : State) : s.withdrawFill.stream = s.stream := rfl
@[simp] theorem State.withdrawFill_retention (s : State) : s.withdrawFill.retention = s.retention := rfl
@[simp] theorem State.withdrawFill_log (s : State) : s.withdrawFill.log = s.log := rfl
@[simp] theorem State.withdrawFill_events (s : State) : s.withdrawFill.events = s.events := rfl
@[simp] theorem State.withdrawFill_ties (s : State) : s.withdrawFill.ties = s.ties := rfl
@[simp] theorem State.withdrawFill_word (s : State) (w' : WordAddr) : s.withdrawFill.word w' = s.word w' := rfl
@[simp] theorem State.withdrawFill_group (s : State) (g' : Nat) : s.withdrawFill.group g' = s.group g' := rfl
@[simp] theorem State.withdrawFill_bank (s : State) (b' : BankNo) : s.withdrawFill.bank b' = s.bank b' := rfl
@[simp] theorem State.withdrawFill_account (s : State) (b' : BankNo) : s.withdrawFill.account b' = s.account b' := rfl
@[simp] theorem State.withdrawFill_chan (s : State) (n' : ChanNo) : s.withdrawFill.chan n' = s.chan n' := rfl

@[simp] theorem State.withdrawScrub_pending (s : State) : s.withdrawScrub.pending = s.pending := rfl
@[simp] theorem State.withdrawScrub_resetAsserted (s : State) : s.withdrawScrub.resetAsserted = s.resetAsserted := rfl
@[simp] theorem State.withdrawScrub_array (s : State) : s.withdrawScrub.array = s.array := rfl
@[simp] theorem State.withdrawScrub_groups (s : State) : s.withdrawScrub.groups = s.groups := rfl
@[simp] theorem State.withdrawScrub_config (s : State) : s.withdrawScrub.config = s.config := rfl
@[simp] theorem State.withdrawScrub_fitted (s : State) : s.withdrawScrub.fitted = s.fitted := rfl
@[simp] theorem State.withdrawScrub_timing (s : State) : s.withdrawScrub.timing = s.timing := rfl
@[simp] theorem State.withdrawScrub_banks (s : State) : s.withdrawScrub.banks = s.banks := rfl
@[simp] theorem State.withdrawScrub_refresh (s : State) : s.withdrawScrub.refresh = s.refresh := rfl
@[simp] theorem State.withdrawScrub_tick (s : State) : s.withdrawScrub.tick = s.tick := rfl
@[simp] theorem State.withdrawScrub_fill (s : State) : s.withdrawScrub.fill = s.fill := rfl
@[simp] theorem State.withdrawScrub_scrub (s : State) : s.withdrawScrub.scrub = s.scrub := rfl
@[simp] theorem State.withdrawScrub_override (s : State) : s.withdrawScrub.override = s.override := rfl
@[simp] theorem State.withdrawScrub_host (s : State) : s.withdrawScrub.host = s.host := rfl
@[simp] theorem State.withdrawScrub_command (s : State) : s.withdrawScrub.command = s.command := rfl
@[simp] theorem State.withdrawScrub_arg (s : State) : s.withdrawScrub.arg = s.arg := rfl
@[simp] theorem State.withdrawScrub_cmdStatus (s : State) : s.withdrawScrub.cmdStatus = s.cmdStatus := rfl
@[simp] theorem State.withdrawScrub_chans (s : State) : s.withdrawScrub.chans = s.chans := rfl
@[simp] theorem State.withdrawScrub_stream (s : State) : s.withdrawScrub.stream = s.stream := rfl
@[simp] theorem State.withdrawScrub_retention (s : State) : s.withdrawScrub.retention = s.retention := rfl
@[simp] theorem State.withdrawScrub_log (s : State) : s.withdrawScrub.log = s.log := rfl
@[simp] theorem State.withdrawScrub_events (s : State) : s.withdrawScrub.events = s.events := rfl
@[simp] theorem State.withdrawScrub_ties (s : State) : s.withdrawScrub.ties = s.ties := rfl
@[simp] theorem State.withdrawScrub_word (s : State) (w' : WordAddr) : s.withdrawScrub.word w' = s.word w' := rfl
@[simp] theorem State.withdrawScrub_group (s : State) (g' : Nat) : s.withdrawScrub.group g' = s.group g' := rfl
@[simp] theorem State.withdrawScrub_bank (s : State) (b' : BankNo) : s.withdrawScrub.bank b' = s.bank b' := rfl
@[simp] theorem State.withdrawScrub_account (s : State) (b' : BankNo) : s.withdrawScrub.account b' = s.account b' := rfl
@[simp] theorem State.withdrawScrub_chan (s : State) (n' : ChanNo) : s.withdrawScrub.chan n' = s.chan n' := rfl

@[simp] theorem State.withdrawChan_pending (s : State) (n : ChanNo) : (s.withdrawChan n).pending = s.pending := rfl
@[simp] theorem State.withdrawChan_resetAsserted (s : State) (n : ChanNo) : (s.withdrawChan n).resetAsserted = s.resetAsserted := rfl
@[simp] theorem State.withdrawChan_array (s : State) (n : ChanNo) : (s.withdrawChan n).array = s.array := rfl
@[simp] theorem State.withdrawChan_groups (s : State) (n : ChanNo) : (s.withdrawChan n).groups = s.groups := rfl
@[simp] theorem State.withdrawChan_config (s : State) (n : ChanNo) : (s.withdrawChan n).config = s.config := rfl
@[simp] theorem State.withdrawChan_fitted (s : State) (n : ChanNo) : (s.withdrawChan n).fitted = s.fitted := rfl
@[simp] theorem State.withdrawChan_timing (s : State) (n : ChanNo) : (s.withdrawChan n).timing = s.timing := rfl
@[simp] theorem State.withdrawChan_banks (s : State) (n : ChanNo) : (s.withdrawChan n).banks = s.banks := rfl
@[simp] theorem State.withdrawChan_refresh (s : State) (n : ChanNo) : (s.withdrawChan n).refresh = s.refresh := rfl
@[simp] theorem State.withdrawChan_tick (s : State) (n : ChanNo) : (s.withdrawChan n).tick = s.tick := rfl
@[simp] theorem State.withdrawChan_fill (s : State) (n : ChanNo) : (s.withdrawChan n).fill = s.fill := rfl
@[simp] theorem State.withdrawChan_scrub (s : State) (n : ChanNo) : (s.withdrawChan n).scrub = s.scrub := rfl
@[simp] theorem State.withdrawChan_override (s : State) (n : ChanNo) : (s.withdrawChan n).override = s.override := rfl
@[simp] theorem State.withdrawChan_host (s : State) (n : ChanNo) : (s.withdrawChan n).host = s.host := rfl
@[simp] theorem State.withdrawChan_command (s : State) (n : ChanNo) : (s.withdrawChan n).command = s.command := rfl
@[simp] theorem State.withdrawChan_arg (s : State) (n : ChanNo) : (s.withdrawChan n).arg = s.arg := rfl
@[simp] theorem State.withdrawChan_cmdStatus (s : State) (n : ChanNo) : (s.withdrawChan n).cmdStatus = s.cmdStatus := rfl
@[simp] theorem State.withdrawChan_chans (s : State) (n : ChanNo) : (s.withdrawChan n).chans = s.chans := rfl
@[simp] theorem State.withdrawChan_stream (s : State) (n : ChanNo) : (s.withdrawChan n).stream = s.stream := rfl
@[simp] theorem State.withdrawChan_retention (s : State) (n : ChanNo) : (s.withdrawChan n).retention = s.retention := rfl
@[simp] theorem State.withdrawChan_log (s : State) (n : ChanNo) : (s.withdrawChan n).log = s.log := rfl
@[simp] theorem State.withdrawChan_events (s : State) (n : ChanNo) : (s.withdrawChan n).events = s.events := rfl
@[simp] theorem State.withdrawChan_ties (s : State) (n : ChanNo) : (s.withdrawChan n).ties = s.ties := rfl
@[simp] theorem State.withdrawChan_word (s : State) (n : ChanNo) (w' : WordAddr) : (s.withdrawChan n).word w' = s.word w' := rfl
@[simp] theorem State.withdrawChan_group (s : State) (n : ChanNo) (g' : Nat) : (s.withdrawChan n).group g' = s.group g' := rfl
@[simp] theorem State.withdrawChan_bank (s : State) (n : ChanNo) (b' : BankNo) : (s.withdrawChan n).bank b' = s.bank b' := rfl
@[simp] theorem State.withdrawChan_account (s : State) (n : ChanNo) (b' : BankNo) : (s.withdrawChan n).account b' = s.account b' := rfl
@[simp] theorem State.withdrawChan_chan (s : State) (n : ChanNo) (n' : ChanNo) : (s.withdrawChan n).chan n' = s.chan n' := rfl

@[simp] theorem State.beginBeat_pending (s : State) (n : ChanNo) : (s.beginBeat n).pending = s.pending := rfl
@[simp] theorem State.beginBeat_resetAsserted (s : State) (n : ChanNo) : (s.beginBeat n).resetAsserted = s.resetAsserted := rfl
@[simp] theorem State.beginBeat_array (s : State) (n : ChanNo) : (s.beginBeat n).array = s.array := rfl
@[simp] theorem State.beginBeat_groups (s : State) (n : ChanNo) : (s.beginBeat n).groups = s.groups := rfl
@[simp] theorem State.beginBeat_config (s : State) (n : ChanNo) : (s.beginBeat n).config = s.config := rfl
@[simp] theorem State.beginBeat_fitted (s : State) (n : ChanNo) : (s.beginBeat n).fitted = s.fitted := rfl
@[simp] theorem State.beginBeat_timing (s : State) (n : ChanNo) : (s.beginBeat n).timing = s.timing := rfl
@[simp] theorem State.beginBeat_banks (s : State) (n : ChanNo) : (s.beginBeat n).banks = s.banks := rfl
@[simp] theorem State.beginBeat_arbs (s : State) (n : ChanNo) : (s.beginBeat n).arbs = s.arbs := rfl
@[simp] theorem State.beginBeat_refresh (s : State) (n : ChanNo) : (s.beginBeat n).refresh = s.refresh := rfl
@[simp] theorem State.beginBeat_tick (s : State) (n : ChanNo) : (s.beginBeat n).tick = s.tick := rfl
@[simp] theorem State.beginBeat_fill (s : State) (n : ChanNo) : (s.beginBeat n).fill = s.fill := rfl
@[simp] theorem State.beginBeat_scrub (s : State) (n : ChanNo) : (s.beginBeat n).scrub = s.scrub := rfl
@[simp] theorem State.beginBeat_override (s : State) (n : ChanNo) : (s.beginBeat n).override = s.override := rfl
@[simp] theorem State.beginBeat_host (s : State) (n : ChanNo) : (s.beginBeat n).host = s.host := rfl
@[simp] theorem State.beginBeat_command (s : State) (n : ChanNo) : (s.beginBeat n).command = s.command := rfl
@[simp] theorem State.beginBeat_arg (s : State) (n : ChanNo) : (s.beginBeat n).arg = s.arg := rfl
@[simp] theorem State.beginBeat_cmdStatus (s : State) (n : ChanNo) : (s.beginBeat n).cmdStatus = s.cmdStatus := rfl
@[simp] theorem State.beginBeat_chans (s : State) (n : ChanNo) : (s.beginBeat n).chans = s.chans := rfl
@[simp] theorem State.beginBeat_retention (s : State) (n : ChanNo) : (s.beginBeat n).retention = s.retention := rfl
@[simp] theorem State.beginBeat_log (s : State) (n : ChanNo) : (s.beginBeat n).log = s.log := rfl
@[simp] theorem State.beginBeat_events (s : State) (n : ChanNo) : (s.beginBeat n).events = s.events := rfl
@[simp] theorem State.beginBeat_ties (s : State) (n : ChanNo) : (s.beginBeat n).ties = s.ties := rfl
@[simp] theorem State.beginBeat_word (s : State) (n : ChanNo) (w' : WordAddr) : (s.beginBeat n).word w' = s.word w' := rfl
@[simp] theorem State.beginBeat_group (s : State) (n : ChanNo) (g' : Nat) : (s.beginBeat n).group g' = s.group g' := rfl
@[simp] theorem State.beginBeat_bank (s : State) (n : ChanNo) (b' : BankNo) : (s.beginBeat n).bank b' = s.bank b' := rfl
@[simp] theorem State.beginBeat_arb (s : State) (n : ChanNo) (b' : BankNo) : (s.beginBeat n).arb b' = s.arb b' := rfl
@[simp] theorem State.beginBeat_account (s : State) (n : ChanNo) (b' : BankNo) : (s.beginBeat n).account b' = s.account b' := rfl
@[simp] theorem State.beginBeat_chan (s : State) (n : ChanNo) (n' : ChanNo) : (s.beginBeat n).chan n' = s.chan n' := rfl

@[simp] theorem State.pauseChan_pending (s : State) (n : ChanNo) : (s.pauseChan n).pending = s.pending := rfl
@[simp] theorem State.pauseChan_resetAsserted (s : State) (n : ChanNo) : (s.pauseChan n).resetAsserted = s.resetAsserted := rfl
@[simp] theorem State.pauseChan_array (s : State) (n : ChanNo) : (s.pauseChan n).array = s.array := rfl
@[simp] theorem State.pauseChan_groups (s : State) (n : ChanNo) : (s.pauseChan n).groups = s.groups := rfl
@[simp] theorem State.pauseChan_config (s : State) (n : ChanNo) : (s.pauseChan n).config = s.config := rfl
@[simp] theorem State.pauseChan_fitted (s : State) (n : ChanNo) : (s.pauseChan n).fitted = s.fitted := rfl
@[simp] theorem State.pauseChan_timing (s : State) (n : ChanNo) : (s.pauseChan n).timing = s.timing := rfl
@[simp] theorem State.pauseChan_banks (s : State) (n : ChanNo) : (s.pauseChan n).banks = s.banks := rfl
@[simp] theorem State.pauseChan_arbs (s : State) (n : ChanNo) : (s.pauseChan n).arbs = s.arbs := rfl
@[simp] theorem State.pauseChan_refresh (s : State) (n : ChanNo) : (s.pauseChan n).refresh = s.refresh := rfl
@[simp] theorem State.pauseChan_tick (s : State) (n : ChanNo) : (s.pauseChan n).tick = s.tick := rfl
@[simp] theorem State.pauseChan_fill (s : State) (n : ChanNo) : (s.pauseChan n).fill = s.fill := rfl
@[simp] theorem State.pauseChan_scrub (s : State) (n : ChanNo) : (s.pauseChan n).scrub = s.scrub := rfl
@[simp] theorem State.pauseChan_override (s : State) (n : ChanNo) : (s.pauseChan n).override = s.override := rfl
@[simp] theorem State.pauseChan_host (s : State) (n : ChanNo) : (s.pauseChan n).host = s.host := rfl
@[simp] theorem State.pauseChan_command (s : State) (n : ChanNo) : (s.pauseChan n).command = s.command := rfl
@[simp] theorem State.pauseChan_arg (s : State) (n : ChanNo) : (s.pauseChan n).arg = s.arg := rfl
@[simp] theorem State.pauseChan_cmdStatus (s : State) (n : ChanNo) : (s.pauseChan n).cmdStatus = s.cmdStatus := rfl
@[simp] theorem State.pauseChan_stream (s : State) (n : ChanNo) : (s.pauseChan n).stream = s.stream := rfl
@[simp] theorem State.pauseChan_retention (s : State) (n : ChanNo) : (s.pauseChan n).retention = s.retention := rfl
@[simp] theorem State.pauseChan_log (s : State) (n : ChanNo) : (s.pauseChan n).log = s.log := rfl
@[simp] theorem State.pauseChan_events (s : State) (n : ChanNo) : (s.pauseChan n).events = s.events := rfl
@[simp] theorem State.pauseChan_ties (s : State) (n : ChanNo) : (s.pauseChan n).ties = s.ties := rfl
@[simp] theorem State.pauseChan_word (s : State) (n : ChanNo) (w' : WordAddr) : (s.pauseChan n).word w' = s.word w' := rfl
@[simp] theorem State.pauseChan_group (s : State) (n : ChanNo) (g' : Nat) : (s.pauseChan n).group g' = s.group g' := rfl
@[simp] theorem State.pauseChan_bank (s : State) (n : ChanNo) (b' : BankNo) : (s.pauseChan n).bank b' = s.bank b' := rfl
@[simp] theorem State.pauseChan_arb (s : State) (n : ChanNo) (b' : BankNo) : (s.pauseChan n).arb b' = s.arb b' := rfl
@[simp] theorem State.pauseChan_account (s : State) (n : ChanNo) (b' : BankNo) : (s.pauseChan n).account b' = s.account b' := rfl

@[simp] theorem State.loseContents_pending (s : State) (b : BankNo) : (s.loseContents b).pending = s.pending := rfl
@[simp] theorem State.loseContents_resetAsserted (s : State) (b : BankNo) : (s.loseContents b).resetAsserted = s.resetAsserted := rfl
@[simp] theorem State.loseContents_groups (s : State) (b : BankNo) : (s.loseContents b).groups = s.groups := rfl
@[simp] theorem State.loseContents_config (s : State) (b : BankNo) : (s.loseContents b).config = s.config := rfl
@[simp] theorem State.loseContents_fitted (s : State) (b : BankNo) : (s.loseContents b).fitted = s.fitted := rfl
@[simp] theorem State.loseContents_timing (s : State) (b : BankNo) : (s.loseContents b).timing = s.timing := rfl
@[simp] theorem State.loseContents_banks (s : State) (b : BankNo) : (s.loseContents b).banks = s.banks := rfl
@[simp] theorem State.loseContents_arbs (s : State) (b : BankNo) : (s.loseContents b).arbs = s.arbs := rfl
@[simp] theorem State.loseContents_refresh (s : State) (b : BankNo) : (s.loseContents b).refresh = s.refresh := rfl
@[simp] theorem State.loseContents_tick (s : State) (b : BankNo) : (s.loseContents b).tick = s.tick := rfl
@[simp] theorem State.loseContents_fill (s : State) (b : BankNo) : (s.loseContents b).fill = s.fill := rfl
@[simp] theorem State.loseContents_scrub (s : State) (b : BankNo) : (s.loseContents b).scrub = s.scrub := rfl
@[simp] theorem State.loseContents_override (s : State) (b : BankNo) : (s.loseContents b).override = s.override := rfl
@[simp] theorem State.loseContents_host (s : State) (b : BankNo) : (s.loseContents b).host = s.host := rfl
@[simp] theorem State.loseContents_command (s : State) (b : BankNo) : (s.loseContents b).command = s.command := rfl
@[simp] theorem State.loseContents_arg (s : State) (b : BankNo) : (s.loseContents b).arg = s.arg := rfl
@[simp] theorem State.loseContents_cmdStatus (s : State) (b : BankNo) : (s.loseContents b).cmdStatus = s.cmdStatus := rfl
@[simp] theorem State.loseContents_chans (s : State) (b : BankNo) : (s.loseContents b).chans = s.chans := rfl
@[simp] theorem State.loseContents_stream (s : State) (b : BankNo) : (s.loseContents b).stream = s.stream := rfl
@[simp] theorem State.loseContents_retention (s : State) (b : BankNo) : (s.loseContents b).retention = s.retention := rfl
@[simp] theorem State.loseContents_log (s : State) (b : BankNo) : (s.loseContents b).log = s.log := rfl
@[simp] theorem State.loseContents_events (s : State) (b : BankNo) : (s.loseContents b).events = s.events := rfl
@[simp] theorem State.loseContents_ties (s : State) (b : BankNo) : (s.loseContents b).ties = s.ties := rfl
@[simp] theorem State.loseContents_group (s : State) (b : BankNo) (g' : Nat) : (s.loseContents b).group g' = s.group g' := rfl
@[simp] theorem State.loseContents_bank (s : State) (b : BankNo) (b' : BankNo) : (s.loseContents b).bank b' = s.bank b' := rfl
@[simp] theorem State.loseContents_arb (s : State) (b : BankNo) (b' : BankNo) : (s.loseContents b).arb b' = s.arb b' := rfl
@[simp] theorem State.loseContents_account (s : State) (b : BankNo) (b' : BankNo) : (s.loseContents b).account b' = s.account b' := rfl
@[simp] theorem State.loseContents_chan (s : State) (b : BankNo) (n' : ChanNo) : (s.loseContents b).chan n' = s.chan n' := rfl

/-! ### What each update changes -/

theorem State.setBank_bank (s : State) (b c : BankNo) (x : Bank) : (s.setBank b x).bank c = if c = b then x else s.bank c :=
  Four.get_set _ _ _ _

theorem State.setArb_arb (s : State) (b c : BankNo) (x : Arbiter) : (s.setArb b x).arb c = if c = b then x else s.arb c :=
  Four.get_set _ _ _ _

theorem State.setAccount_account (s : State) (b c : BankNo) (x : RefreshAccount) :
    (s.setAccount b x).account c = if c = b then x else s.account c :=
  Four.get_set _ _ _ _

theorem State.setBalance_account (s : State) (b c : BankNo) (x : Int) (k : BitVec 8) :
    (s.setBalance b x k).account c = if c = b then { balance := x, cursor := k } else s.account c :=
  Four.get_set _ _ _ _

theorem State.settleOne_account (s : State) (b c : BankNo) (d : Int) :
    (s.settleOne b d).account c =
      if c = b then { balance := (s.account b).balance + d, cursor := (s.account b).cursor + 1#8 } else s.account c :=
  Four.get_set _ _ _ _

theorem State.setChan_chan (s : State) (n m : ChanNo) (x : Channel) : (s.setChan n x).chan m = if m = n then x else s.chan m :=
  Four.get_set _ _ _ _

theorem State.clearOp_bank (s : State) (b c : BankNo) :
    (s.clearOp b).bank c = if c = b then { s.bank b with op := none } else s.bank c :=
  Four.get_set _ _ _ _

@[simp] theorem State.withdrawFill_arb (s : State) (b : BankNo) : s.withdrawFill.arb b = { s.arb b with fill := none } :=
  Four.get_map _ _ _

@[simp] theorem State.withdrawScrub_arb (s : State) (b : BankNo) : s.withdrawScrub.arb b = { s.arb b with scrub := none } :=
  Four.get_map _ _ _

@[simp] theorem State.withdrawChan_arb (s : State) (n : ChanNo) (b : BankNo) :
    (s.withdrawChan n).arb b = { s.arb b with ch := (s.arb b).ch.set n none } :=
  Four.get_map _ _ _

@[simp] theorem State.raise_events (s : State) (e : Event) : (s.raise e).events = withEvent s.events e := rfl

@[simp] theorem State.endCycle_host (s : State) (e : BusEnd) : (s.endCycle e).host = endedPort s.host e := rfl

@[simp] theorem State.holdCycle_host (s : State) (c : Cycle) :
    (s.holdCycle c).host = { s.host with cycle := c, busEnd := none } := rfl

@[simp] theorem State.setRetention_retention (s : State) (x : RetentionState) :
    (s.setRetention x).retention = { s.retention with state := x } := rfl

@[simp] theorem State.reportSettled_retention (s : State) :
    s.reportSettled.retention = { s.retention with unsettled := s.retention.unsettled - 1 } := rfl

@[simp] theorem State.setScrub_scrub (s : State) (x : ScrubState) : (s.setScrub x).scrub = { s.scrub with state := x } := rfl

@[simp] theorem State.setSrq_stream (s : State) (n : ChanNo) (level : Bool) :
    (s.setSrq n level).stream = { s.stream with srq := s.stream.srq.set n level } := rfl

@[simp] theorem State.pauseChan_chan (s : State) (n m : ChanNo) :
    (s.pauseChan n).chan m = if m = n then { s.chan n with state := .paused } else s.chan m :=
  Four.get_set _ _ _ _

/-! ### A record without room for doubt -/

/-- A finding that is no repeat of the newest record, handed to a log with room, becomes a record, and nothing else changes (R177). -/
theorem State.hand_eq_logged (s : State) (f : Finding) (hc : coalesces s.log f = false) (hl : s.log.records.length < 8) :
    s.hand f = { s with log := logged s.log f } := by
  have : ¬ Config.logDepth ≤ s.log.records.length := by simpa [Config.logDepth] using hl
  simp [State.hand, hc, this, logged]

/-- Only CORRECTED findings coalesce (R178). -/
theorem coalesces_of_kind_ne (l : ErrorLog) (f : Finding) (h : f.kind ≠ .corrected) : coalesces l f = false := by
  simp [coalesces, h]

/-! ### What a finding leaves alone -/

@[simp] theorem State.hand_pending (s : State) (x : Finding) : (s.hand x).pending = s.pending := by
  unfold State.hand
  split <;> [rfl; (split <;> rfl)]
@[simp] theorem State.hand_resetAsserted (s : State) (x : Finding) : (s.hand x).resetAsserted = s.resetAsserted := by
  unfold State.hand
  split <;> [rfl; (split <;> rfl)]
@[simp] theorem State.hand_array (s : State) (x : Finding) : (s.hand x).array = s.array := by
  unfold State.hand
  split <;> [rfl; (split <;> rfl)]
@[simp] theorem State.hand_groups (s : State) (x : Finding) : (s.hand x).groups = s.groups := by
  unfold State.hand
  split <;> [rfl; (split <;> rfl)]
@[simp] theorem State.hand_config (s : State) (x : Finding) : (s.hand x).config = s.config := by
  unfold State.hand
  split <;> [rfl; (split <;> rfl)]
@[simp] theorem State.hand_fitted (s : State) (x : Finding) : (s.hand x).fitted = s.fitted := by
  unfold State.hand
  split <;> [rfl; (split <;> rfl)]
@[simp] theorem State.hand_timing (s : State) (x : Finding) : (s.hand x).timing = s.timing := by
  unfold State.hand
  split <;> [rfl; (split <;> rfl)]
@[simp] theorem State.hand_banks (s : State) (x : Finding) : (s.hand x).banks = s.banks := by
  unfold State.hand
  split <;> [rfl; (split <;> rfl)]
@[simp] theorem State.hand_arbs (s : State) (x : Finding) : (s.hand x).arbs = s.arbs := by
  unfold State.hand
  split <;> [rfl; (split <;> rfl)]
@[simp] theorem State.hand_refresh (s : State) (x : Finding) : (s.hand x).refresh = s.refresh := by
  unfold State.hand
  split <;> [rfl; (split <;> rfl)]
@[simp] theorem State.hand_tick (s : State) (x : Finding) : (s.hand x).tick = s.tick := by
  unfold State.hand
  split <;> [rfl; (split <;> rfl)]
@[simp] theorem State.hand_fill (s : State) (x : Finding) : (s.hand x).fill = s.fill := by
  unfold State.hand
  split <;> [rfl; (split <;> rfl)]
@[simp] theorem State.hand_scrub (s : State) (x : Finding) : (s.hand x).scrub = s.scrub := by
  unfold State.hand
  split <;> [rfl; (split <;> rfl)]
@[simp] theorem State.hand_override (s : State) (x : Finding) : (s.hand x).override = s.override := by
  unfold State.hand
  split <;> [rfl; (split <;> rfl)]
@[simp] theorem State.hand_host (s : State) (x : Finding) : (s.hand x).host = s.host := by
  unfold State.hand
  split <;> [rfl; (split <;> rfl)]
@[simp] theorem State.hand_command (s : State) (x : Finding) : (s.hand x).command = s.command := by
  unfold State.hand
  split <;> [rfl; (split <;> rfl)]
@[simp] theorem State.hand_arg (s : State) (x : Finding) : (s.hand x).arg = s.arg := by
  unfold State.hand
  split <;> [rfl; (split <;> rfl)]
@[simp] theorem State.hand_cmdStatus (s : State) (x : Finding) : (s.hand x).cmdStatus = s.cmdStatus := by
  unfold State.hand
  split <;> [rfl; (split <;> rfl)]
@[simp] theorem State.hand_chans (s : State) (x : Finding) : (s.hand x).chans = s.chans := by
  unfold State.hand
  split <;> [rfl; (split <;> rfl)]
@[simp] theorem State.hand_stream (s : State) (x : Finding) : (s.hand x).stream = s.stream := by
  unfold State.hand
  split <;> [rfl; (split <;> rfl)]
@[simp] theorem State.hand_retention (s : State) (x : Finding) : (s.hand x).retention = s.retention := by
  unfold State.hand
  split <;> [rfl; (split <;> rfl)]
@[simp] theorem State.hand_ties (s : State) (x : Finding) : (s.hand x).ties = s.ties := by
  unfold State.hand
  split <;> [rfl; (split <;> rfl)]
@[simp] theorem State.hand_word (s : State) (x : Finding) (w' : WordAddr) : (s.hand x).word w' = s.word w' := by
  simp [State.word]
@[simp] theorem State.hand_group (s : State) (x : Finding) (g' : Nat) : (s.hand x).group g' = s.group g' := by
  simp [State.group]
@[simp] theorem State.hand_bank (s : State) (x : Finding) (b' : BankNo) : (s.hand x).bank b' = s.bank b' := by
  simp [State.bank]
@[simp] theorem State.hand_arb (s : State) (x : Finding) (b' : BankNo) : (s.hand x).arb b' = s.arb b' := by
  simp [State.arb]
@[simp] theorem State.hand_account (s : State) (x : Finding) (b' : BankNo) : (s.hand x).account b' = s.account b' := by
  simp [State.account]
@[simp] theorem State.hand_chan (s : State) (x : Finding) (n' : ChanNo) : (s.hand x).chan n' = s.chan n' := by
  simp [State.chan]

end Sys2Proof.Machine
end

