-- ==== Sys2Proof/Laws/Tables.lean ====
section
/-! SUPPORT. Laws/Tables.lean: the sparse tables: a read after a write, and the canonical form that every write keeps. -/

namespace Sys2Proof.Machine

variable {α : Type} [DecidableEq α] {blank : α}

omit [DecidableEq α] in
/-- Below every listed number a table reads as blank. -/
theorem tableRead_of_lt : ∀ {t : List (Nat × α)} {k : Nat}, (∀ e ∈ t, k < e.1) → tableRead blank t k = blank
  | [], _, _ => rfl
  | (j, x) :: t, k, h => by
    have hj : k < j := h (j, x) (by simp)
    rw [tableRead, if_neg (by omega)]
    exact tableRead_of_lt fun e he => h e (by simp [he])

/-- The entry written reads as written, and every other entry as before. -/
theorem tableRead_tableWrite : ∀ {t : List (Nat × α)} (k j : Nat) (v : α), TableWf blank t →
    tableRead blank (tableWrite blank t k v) j = if j = k then v else tableRead blank t j
  | [], k, j, v, _ => by
    by_cases hv : v = blank <;> by_cases hj : j = k <;> simp [tableWrite, tableRead, hv, hj]
    exact fun h => absurd h.symm hj
  | (i, x) :: t, k, j, v, h => by
    have ht : TableWf blank t := ⟨(List.pairwise_cons.1 h.1).2, fun e he => h.2 e (by simp [he])⟩
    have hlt : ∀ e ∈ t, i < e.1 := (List.pairwise_cons.1 h.1).1
    unfold tableWrite
    split
    · by_cases hv : v = blank <;> by_cases hj : j = k
      · subst hv hj
        rw [if_pos rfl, if_pos rfl, tableRead, if_neg (by omega), tableRead_of_lt]
        intro e he
        have := hlt e he
        omega
      · simp [hv, hj]
      · simp [hv, hj, tableRead]
      · rw [if_neg hv, if_neg hj, tableRead, if_neg (by omega)]
    · split
      · by_cases hv : v = blank <;> by_cases hj : j = k
        · subst hv hj
          rw [if_pos rfl, if_pos rfl, tableRead_of_lt]
          intro e he
          have := hlt e he
          omega
        · rw [if_pos hv, if_neg hj, tableRead, if_neg (by omega)]
        · simp [hv, hj, tableRead]
        · rw [if_neg hv, if_neg hj, tableRead, if_neg (by omega), tableRead, if_neg (by omega)]
      · rw [tableRead, tableRead, tableRead_tableWrite k j v ht]
        by_cases hi : i = j
        · rw [if_pos hi, if_pos hi, if_neg (by omega)]
        · rw [if_neg hi, if_neg hi]

/-- The numbers a write leaves listed are the one written and those listed before. -/
theorem mem_tableWrite : ∀ {t : List (Nat × α)} {k : Nat} {v : α} {e : Nat × α}, e ∈ tableWrite blank t k v →
    (e = (k, v) ∧ v ≠ blank) ∨ e ∈ t
  | [], k, v, e, h => by
    unfold tableWrite at h
    split at h <;> simp_all
  | (i, x) :: t, k, v, e, h => by
    unfold tableWrite at h
    split at h
    · split at h <;> simp_all
    · split at h
      · split at h <;> simp_all
        rcases h with h | h <;> simp [h]
      · rcases List.mem_cons.1 h with h | h
        · simp [h]
        · rcases mem_tableWrite h with h | h
          · exact .inl h
          · exact .inr (by simp [h])

/-- A write keeps the canonical form. -/
theorem tableWrite_wf : ∀ {t : List (Nat × α)} (k : Nat) (v : α), TableWf blank t → TableWf blank (tableWrite blank t k v)
  | [], k, v, _ => by
    by_cases hv : v = blank <;> simp [tableWrite, hv, TableWf]
  | (i, x) :: t, k, v, h => by
    have ht : TableWf blank t := ⟨(List.pairwise_cons.1 h.1).2, fun e he => h.2 e (by simp [he])⟩
    have hlt : ∀ e ∈ t, i < e.1 := (List.pairwise_cons.1 h.1).1
    unfold tableWrite
    split
    · split
      · exact h
      · refine ⟨List.pairwise_cons.2 ⟨?_, h.1⟩, ?_⟩
        · intro e he
          rcases List.mem_cons.1 he with rfl | he
          · assumption
          · have := hlt e he
            simp only
            omega
        · intro e he
          rcases List.mem_cons.1 he with rfl | he
          · assumption
          · exact h.2 e he
    · split
      · split
        · exact ht
        · refine ⟨List.pairwise_cons.2 ⟨?_, ht.1⟩, ?_⟩
          · intro e he
            have := hlt e he
            simp only
            omega
          · intro e he
            rcases List.mem_cons.1 he with rfl | he
            · assumption
            · exact ht.2 e he
      · have ih := tableWrite_wf k v ht
        refine ⟨List.pairwise_cons.2 ⟨?_, ih.1⟩, ?_⟩
        · intro e he
          rcases mem_tableWrite he with ⟨rfl, _⟩ | he
          · simp only
            omega
          · exact hlt e he
        · intro e he
          rcases List.mem_cons.1 he with rfl | he
          · exact h.2 _ (by simp)
          · exact ih.2 e he

omit [DecidableEq α] in
/-- Taking entries away keeps the canonical form. -/
theorem filter_wf {t : List (Nat × α)} (p : Nat × α → Bool) (h : TableWf blank t) : TableWf blank (t.filter p) :=
  ⟨h.1.filter p, fun e he => h.2 e (List.mem_filter.1 he).1⟩

omit [DecidableEq α] in
/-- What a table reads as after some of its entries are taken away. -/
theorem tableRead_filter : ∀ {t : List (Nat × α)} (p : Nat × α → Bool) (k : Nat), TableWf blank t →
    tableRead blank (t.filter p) k = if p (k, tableRead blank t k) then tableRead blank t k else blank
  | [], p, k, _ => by
    simp only [List.filter_nil, tableRead]
    exact (ite_self _).symm
  | (i, x) :: t, p, k, h => by
    have ht : TableWf blank t := ⟨(List.pairwise_cons.1 h.1).2, fun e he => h.2 e (by simp [he])⟩
    have hlt : ∀ e ∈ t, i < e.1 := (List.pairwise_cons.1 h.1).1
    rw [List.filter_cons]
    by_cases hi : i = k
    · subst hi
      have hb : tableRead blank t i = blank := tableRead_of_lt hlt
      split
      · simp_all [tableRead]
      · rw [tableRead_filter p i ht]
        simp_all [tableRead]
    · split
      · rw [tableRead, tableRead, if_neg hi, if_neg hi, tableRead_filter p k ht]
      · rw [tableRead, if_neg hi, tableRead_filter p k ht]

/-! ### The array and the Row Group Table -/

/-- A stored word reads as stored, and every other word as before. -/
theorem State.setWord_word (s : State) (w v : WordAddr) (x : Stored) (h : s.tablesWf) :
    (s.setWord w x).word v = if v = w then x else s.word v := by
  have := tableRead_tableWrite w.toNat v.toNat x h.1
  simpa [State.word, State.setWord, BitVec.toNat_inj] using this

/-- A group reads as written, and every other group as before. -/
theorem State.setGroup_group (s : State) (g k : Nat) (x : Group) (h : s.tablesWf) :
    (s.setGroup g x).group k = if k = g then x else s.group k :=
  tableRead_tableWrite g k x h.2

theorem State.setGroupState_group (s : State) (g k : Nat) (st : GroupState) (h : s.tablesWf) :
    (s.setGroupState g st).group k = if k = g then { s.group g with state := st } else s.group k :=
  State.setGroup_group s g k _ h

theorem State.setWord_wf (s : State) (w : WordAddr) (x : Stored) (h : s.tablesWf) : (s.setWord w x).tablesWf :=
  ⟨tableWrite_wf _ _ h.1, h.2⟩

theorem State.setGroup_wf (s : State) (g : Nat) (x : Group) (h : s.tablesWf) : (s.setGroup g x).tablesWf :=
  ⟨h.1, tableWrite_wf _ _ h.2⟩

theorem State.setGroupState_wf (s : State) (g : Nat) (st : GroupState) (h : s.tablesWf) : (s.setGroupState g st).tablesWf :=
  s.setGroup_wf g _ h

theorem State.setWords_wf (s : State) (w : WordAddr) (xs : List Stored) (h : s.tablesWf) : (s.setWords w xs).tablesWf := by
  induction xs generalizing s w with
  | nil => exact h
  | cons x rest ih => exact ih _ _ (s.setWord_wf w x h)

theorem State.loseContents_wf (s : State) (b : BankNo) (h : s.tablesWf) : (s.loseContents b).tablesWf :=
  ⟨filter_wf _ h.1, h.2⟩

theorem State.discardPending_wf (s : State) (h : s.tablesWf) : s.discardPending.tablesWf :=
  ⟨h.1, filter_wf _ h.2⟩

/-- Storing words changes the array alone. -/
theorem State.setWords_eq (s : State) (w : WordAddr) (xs : List Stored) :
    s.setWords w xs = { s with array := (s.setWords w xs).array } := by
  induction xs generalizing s w with
  | nil => rfl
  | cons x rest ih =>
    rw [State.setWords, ih]
    simp [State.setWord]

/-- A word outside the burst reads as before. -/
theorem State.setWords_word_of_not_mem (s : State) (w v : WordAddr) (xs : List Stored) (h : s.tablesWf)
    (hv : v ∉ burstAddrs w xs.length) : (s.setWords w xs).word v = s.word v := by
  induction xs generalizing s w with
  | nil => rfl
  | cons x rest ih =>
    have h0 : v ≠ w := by
      rintro rfl
      exact hv (List.mem_map.2 ⟨0, by simp, by simp⟩)
    have h1 : v ∉ burstAddrs (w + 1#22) rest.length := by
      intro hm
      obtain ⟨k, hk, rfl⟩ := List.mem_map.1 hm
      refine hv (List.mem_map.2 ⟨k + 1, by simp at hk ⊢; omega, ?_⟩)
      rw [BitVec.add_assoc, ← BitVec.ofNat_add]
      congr 2
      omega
    rw [State.setWords, ih _ _ (s.setWord_wf w x h) h1, s.setWord_word w v x h, if_neg h0]

/-- Word number `i` of a burst reads as stored, while the burst is no longer than the address space. -/
theorem State.setWords_word (s : State) (w : WordAddr) (xs : List Stored) (i : Nat) (h : s.tablesWf) (hi : i < xs.length)
    (hl : xs.length ≤ 2 ^ 22) : (s.setWords w xs).word (w + BitVec.ofNat 22 i) = xs[i] := by
  induction xs generalizing s w i with
  | nil => simp at hi
  | cons x rest ih =>
    have hl' : rest.length ≤ 2 ^ 22 := by simp at hl; omega
    match i with
    | 0 =>
      have hn : w ∉ burstAddrs (w + 1#22) rest.length := by
        intro hm
        obtain ⟨k, hk, he⟩ := List.mem_map.1 hm
        simp at hk hl
        have := congrArg BitVec.toNat he
        simp only [BitVec.toNat_add, BitVec.toNat_ofNat] at this
        have := w.isLt
        omega
      rw [State.setWords]
      simp [State.setWords_word_of_not_mem _ _ _ _ (s.setWord_wf w x h) hn, s.setWord_word w w x h]
    | k + 1 =>
      have e : w + BitVec.ofNat 22 (k + 1) = w + 1#22 + BitVec.ofNat 22 k := by
        rw [BitVec.add_assoc, ← BitVec.ofNat_add, Nat.add_comm]
      rw [State.setWords, e]
      simpa using ih _ _ k (s.setWord_wf w x h) (by simpa using hi) hl'

end Sys2Proof.Machine
end

