-- ==== Sys2Proof/Laws/Step.lean ====
section
/-! SUPPORT. Laws/Step.lean: what each shared operation does, said once: happenings at rest, the end of a column operation, a burst of clean words,
the placing of requests, the beat decision, the halt of a channel, the meeting of requests and the answers of a bank that leaves READY. -/

namespace Sys2Proof.Machine

/-! ### Happenings at rest -/

/-- At rest nothing is left to settle. -/
theorem State.settled_of_quiet (s : State) (h : s.quiet = true) : s.settled = s := by
  have hn : s.nextDue = none := by simpa [State.quiet] using h
  simp [State.settled, State.settleWith, hn]

/-- A happening from outside at rest is taken at once. -/
theorem State.happen_atRest (s : State) (f : State → State) (h : s.atRest) : s.happen f = f s := by
  simp [State.happen, h.1, s.settled_of_quiet h.2]

/-- A bus cycle on a free bus is taken at once. -/
theorem State.busCycle_free (s : State) (f : State → State) (h : s.busFree) : s.busCycle f = f s := by
  simp [State.busCycle, s.happen_atRest _ h.1, h.2]

/-- An own step that is due is carried out. -/
theorem State.ownIfDue_due (s : State) (o : OwnStep) (h : s.ownDue o = true) : s.ownIfDue o = s.ownStep o := by
  simp [State.ownIfDue, h]

/-- A write to COMMAND on a free bus with an empty write queue is a command taken. -/
theorem State.issue_ready (s : State) (w : Word) (h : s.host.queue = []) :
    s.issue w = ({ s with command := w } : State).takeCommand := by
  simp [State.issue, h]

/-! ### Column operations -/

/-- All that a column operation's completion does to its bank and arbiter. -/
theorem State.finishColumn_eq (s : State) (b : BankNo) :
    s.finishColumn b = { s with
      banks := s.banks.set b (afterColumn s.config.hold (s.bank b))
      arbs := s.arbs.set b (afterColumnArb s.config.hold (s.bank b) (s.arb b)) } := by
  unfold State.finishColumn afterColumn afterColumnArb
  by_cases h : s.config.hold = 0#6 ∨ (s.bank b).offWaiting = true
  · rw [if_pos h, if_pos h, if_pos h]
    by_cases ho : (s.bank b).openRow.isSome = true <;>
      simp_all [State.closeRow, State.clearOp, State.setBank, State.setArb, State.bank, State.arb, afterClose,
        Four.get_set_self, Four.set_set, Four.set_get]
  · rw [if_neg h, if_neg h, if_neg h]
    simp [State.clearOp, State.setBank, State.bank, State.arb, Config.holdUnit, Four.get_set_self, Four.set_set,
      Four.set_get]

theorem State.finishColumn_bank (s : State) (b c : BankNo) :
    (s.finishColumn b).bank c = if c = b then afterColumn s.config.hold (s.bank b) else s.bank c := by
  rw [State.finishColumn_eq]
  exact Four.get_set _ _ _ _

theorem State.finishColumn_arb (s : State) (b c : BankNo) : (s.finishColumn b).arb c = s.columnDone b c := by
  rw [State.finishColumn_eq]
  exact Four.get_set _ _ _ _

@[simp] theorem State.finishColumn_pending (s : State) (b : BankNo) : (s.finishColumn b).pending = s.pending := by
  rw [State.finishColumn_eq]
@[simp] theorem State.finishColumn_resetAsserted (s : State) (b : BankNo) : (s.finishColumn b).resetAsserted = s.resetAsserted := by
  rw [State.finishColumn_eq]
@[simp] theorem State.finishColumn_array (s : State) (b : BankNo) : (s.finishColumn b).array = s.array := by
  rw [State.finishColumn_eq]
@[simp] theorem State.finishColumn_groups (s : State) (b : BankNo) : (s.finishColumn b).groups = s.groups := by
  rw [State.finishColumn_eq]
@[simp] theorem State.finishColumn_config (s : State) (b : BankNo) : (s.finishColumn b).config = s.config := by
  rw [State.finishColumn_eq]
@[simp] theorem State.finishColumn_fitted (s : State) (b : BankNo) : (s.finishColumn b).fitted = s.fitted := by
  rw [State.finishColumn_eq]
@[simp] theorem State.finishColumn_timing (s : State) (b : BankNo) : (s.finishColumn b).timing = s.timing := by
  rw [State.finishColumn_eq]
@[simp] theorem State.finishColumn_refresh (s : State) (b : BankNo) : (s.finishColumn b).refresh = s.refresh := by
  rw [State.finishColumn_eq]
@[simp] theorem State.finishColumn_tick (s : State) (b : BankNo) : (s.finishColumn b).tick = s.tick := by
  rw [State.finishColumn_eq]
@[simp] theorem State.finishColumn_fill (s : State) (b : BankNo) : (s.finishColumn b).fill = s.fill := by
  rw [State.finishColumn_eq]
@[simp] theorem State.finishColumn_scrub (s : State) (b : BankNo) : (s.finishColumn b).scrub = s.scrub := by
  rw [State.finishColumn_eq]
@[simp] theorem State.finishColumn_override (s : State) (b : BankNo) : (s.finishColumn b).override = s.override := by
  rw [State.finishColumn_eq]
@[simp] theorem State.finishColumn_host (s : State) (b : BankNo) : (s.finishColumn b).host = s.host := by
  rw [State.finishColumn_eq]
@[simp] theorem State.finishColumn_command (s : State) (b : BankNo) : (s.finishColumn b).command = s.command := by
  rw [State.finishColumn_eq]
@[simp] theorem State.finishColumn_arg (s : State) (b : BankNo) : (s.finishColumn b).arg = s.arg := by
  rw [State.finishColumn_eq]
@[simp] theorem State.finishColumn_cmdStatus (s : State) (b : BankNo) : (s.finishColumn b).cmdStatus = s.cmdStatus := by
  rw [State.finishColumn_eq]
@[simp] theorem State.finishColumn_chans (s : State) (b : BankNo) : (s.finishColumn b).chans = s.chans := by
  rw [State.finishColumn_eq]
@[simp] theorem State.finishColumn_stream (s : State) (b : BankNo) : (s.finishColumn b).stream = s.stream := by
  rw [State.finishColumn_eq]
@[simp] theorem State.finishColumn_retention (s : State) (b : BankNo) : (s.finishColumn b).retention = s.retention := by
  rw [State.finishColumn_eq]
@[simp] theorem State.finishColumn_log (s : State) (b : BankNo) : (s.finishColumn b).log = s.log := by
  rw [State.finishColumn_eq]
@[simp] theorem State.finishColumn_events (s : State) (b : BankNo) : (s.finishColumn b).events = s.events := by
  rw [State.finishColumn_eq]
@[simp] theorem State.finishColumn_ties (s : State) (b : BankNo) : (s.finishColumn b).ties = s.ties := by
  rw [State.finishColumn_eq]
@[simp] theorem State.finishColumn_word (s : State) (b : BankNo) (w' : WordAddr) : (s.finishColumn b).word w' = s.word w' := by
  rw [State.finishColumn_eq]
  rfl
@[simp] theorem State.finishColumn_group (s : State) (b : BankNo) (g' : Nat) : (s.finishColumn b).group g' = s.group g' := by
  rw [State.finishColumn_eq]
  rfl
@[simp] theorem State.finishColumn_account (s : State) (b : BankNo) (b' : BankNo) : (s.finishColumn b).account b' = s.account b' := by
  rw [State.finishColumn_eq]
  rfl
@[simp] theorem State.finishColumn_chan (s : State) (b : BankNo) (n' : ChanNo) : (s.finishColumn b).chan n' = s.chan n' := by
  rw [State.finishColumn_eq]
  rfl
@[simp] theorem afterColumn_state (h : BitVec 6) (k : Bank) : (afterColumn h k).state = k.state := by
  unfold afterColumn
  split <;> rfl

@[simp] theorem State.finishColumn_isReady (s : State) (b c : BankNo) : (s.finishColumn b).isReady c = s.isReady c := by
  simp only [State.isReady, State.finishColumn_bank]
  split <;> simp_all

@[simp] theorem afterColumn_op (h : BitVec 6) (k : Bank) : (afterColumn h k).op = none := by
  unfold afterColumn
  split <;> rfl

@[simp] theorem afterColumnArb_ch (h : BitVec 6) (k : Bank) (a : Arbiter) : (afterColumnArb h k a).ch = a.ch := by
  unfold afterColumnArb afterClose
  split <;> [(split <;> rfl); rfl]

@[simp] theorem afterColumnArb_host (h : BitVec 6) (k : Bank) (a : Arbiter) : (afterColumnArb h k a).host = a.host := by
  unfold afterColumnArb afterClose
  split <;> [(split <;> rfl); rfl]

@[simp] theorem State.columnDone_ch (s : State) (b c : BankNo) : (s.columnDone b c).ch = (s.arb c).ch := by
  unfold State.columnDone
  split <;> simp_all

/-- A burst of clean words is checked without effect. -/
theorem State.checkBurst_clean (s : State) (src : Source) (wb : Bool) (ws : List WordAddr)
    (h : ∀ w ∈ ws, ∃ d, classify (s.word w) = .clean d) : s.checkBurst src wb ws = s := by
  induction ws with
  | nil => rfl
  | cons w rest ih =>
    obtain ⟨d, hd⟩ := h w (by simp)
    have e : s.checkRead src wb w = s := by
      unfold State.checkRead
      dsimp only
      rw [hd]
    rw [State.checkBurst, List.foldl_cons, e]
    exact ih fun v hv => h v (by simp [hv])

/-- The data of a burst of clean words. -/
theorem State.burstData_clean (s : State) (ws : List WordAddr) (ds : List Word)
    (h : ws.map (fun w => classify (s.word w)) = ds.map ReadClass.clean) : s.burstData ws = some ds := by
  rw [State.burstData, State.burstClasses, h]
  clear h
  induction ds with
  | nil => rfl
  | cons d rest ih =>
    rw [List.map_cons, List.mapM_cons, ih]
    rfl

theorem clean_of_map_eq {s : State} {ws : List WordAddr} {ds : List Word}
    (h : ws.map (fun w => classify (s.word w)) = ds.map ReadClass.clean) :
    ∀ w ∈ ws, ∃ d, classify (s.word w) = .clean d := by
  intro w hw
  have : classify (s.word w) ∈ ds.map ReadClass.clean := h ▸ List.mem_map.2 ⟨w, hw, rfl⟩
  obtain ⟨d, _, hd⟩ := List.mem_map.1 this
  exact ⟨d, hd.symm⟩

/-! ### Requests -/

/-- A request placed at a READY bank is pending there, and nothing else changes (R62). -/
theorem State.placeChan_ready (s : State) (n : ChanNo) (r : Request) (h : s.isReady (bankOf r.addr) = true) :
    s.placeChan n r = s.setArb (bankOf r.addr)
      { s.arb (bankOf r.addr) with ch := (s.arb (bankOf r.addr)).ch.set n (some r) } := by
  simp [State.placeChan, h]

theorem State.placeChan_ready_arb (s : State) (n : ChanNo) (r : Request) (h : s.isReady (bankOf r.addr) = true)
    (c : BankNo) : (s.placeChan n r).arb c = withRequest n r c (s.arb c) := by
  rw [s.placeChan_ready n r h, State.setArb_arb, withRequest]
  split <;> simp_all

/-- With every bank READY, a channel that considers its next request changes at most that request of its own (R121). -/
theorem State.consider_allReady (s : State) (n : ChanNo) (h : s.allReady) :
    ∃ a : Four Arbiter, s.consider n = { s with arbs := a } ∧
      ∀ c, { a.get c with ch := (a.get c).ch.set n none } = { s.arb c with ch := (s.arb c).ch.set n none } := by
  unfold State.consider
  dsimp only
  split
  · exact ⟨s.arbs, rfl, fun c => rfl⟩
  · split
    · split
      · rename_i r _
        rw [s.placeChan_ready n r (h _)]
        refine ⟨_, rfl, fun c => ?_⟩
        rw [Four.get_set]
        split
        · simp_all [Four.set_set]
        · rfl
      · exact ⟨s.arbs, rfl, fun c => rfl⟩
    · exact ⟨s.arbs, rfl, fun c => rfl⟩

/-- A stream port with no decision due is left as it is (R156). -/
theorem State.decideBeat_quiet (s : State) (h : s.portQuiet) : s.decideBeat = s := by
  unfold State.decideBeat
  split
  · rfl
  · rcases h with h | h
    · simp_all [Option.isSome_iff_ne_none]
    · have : s.beatOrder.find? (fun n => s.eligible n) = none := by simp [h]
      rw [this]

/-- Eligibility is a matter of the channel, its beat and its SRQ level (R155). -/
theorem State.eligible_congr {s t : State} {n : ChanNo} (hc : t.chan n = s.chan n) (hs : t.stream = s.stream) :
    t.eligible n = s.eligible n := by
  simp [State.eligible, State.beatOf, hc, hs]

/-- Nothing is asked together of an empty list. -/
@[simp] theorem State.forTogether_nil {α : Type} (s : State) (f : α → State → State) : s.forTogether [] f = s := by
  simp [State.forTogether]

/-- One happening needs no choice of order. -/
@[simp] theorem State.forTogether_single {α : Type} (s : State) (x : α) (f : α → State → State) :
    s.forTogether [x] f = f x s := by
  simp [State.forTogether]

/-! ### Channels that halt, and grants -/

/-- Nothing is withdrawn of a channel that has no request pending (R73). -/
theorem State.withdrawChan_none (s : State) (n : ChanNo) (h : ∀ c, (s.arb c).ch.get n = none) : s.withdrawChan n = s := by
  have e : (s.arbs.map fun a => { a with ch := a.ch.set n none }) = s.arbs := by
    refine Four.ext_get fun c => ?_
    rw [Four.get_map]
    have hc : (s.arbs.get c).ch.get n = none := h c
    have := Four.set_get (s.arbs.get c).ch n
    rw [hc] at this
    rw [this]
  unfold State.withdrawChan
  rw [e]

/-- Nothing becomes residual of a channel with no operation in flight and no beat (R136). -/
theorem State.markResidual_none (s : State) (n : ChanNo) (ho : s.chanOp n (fun _ => true) = false) (hb : s.beatOf n = false) :
    s.markResidual n = s := by
  have hbank : ∀ b, (s.banks.get b).op.map (fun o => if o.kind.channel = some n then { o with residual := true } else o) =
      (s.banks.get b).op := by
    intro b
    cases hop : (s.banks.get b).op with
    | none => rfl
    | some o =>
      have : o.kind.channel ≠ some n := fun hk => by
        have hx : s.chanOp n (fun _ => true) = true := by
          refine List.any_eq_true.2 ⟨b, Four.mem_indices b, ?_⟩
          simp [State.bank, hop, hk]
        simp [hx] at ho
      simp [this]
  have e : (s.banks.map fun k => { k with
      op := k.op.map fun o => if o.kind.channel = some n then { o with residual := true } else o }) = s.banks := by
    refine Four.ext_get fun b => ?_
    rw [Four.get_map, hbank b]
  have eb : (s.stream.beat.map fun x => if x.ch = n then { x with residual := true } else x) = s.stream.beat := by
    cases hx : s.stream.beat with
    | none => rfl
    | some x =>
      have : x.ch ≠ n := fun hk => by simp [State.beatOf, hx, hk] at hb
      simp [this]
  unfold State.markResidual
  dsimp only
  rw [e, eb, ho, hb]
  simp only [Bool.or_false, State.setChan, State.chan]
  show { s with chans := s.chans.set n (s.chans.get n) } = s
  rw [Four.set_get]

/-- A channel with no request, operation or beat halts and leaves nothing behind (R146). -/
theorem State.haltChan_lone (s : State) (n : ChanNo) (code : FaultCode) (w : Option WordAddr)
    (hr : ∀ c, (s.arb c).ch.get n = none) (ho : s.chanOp n (fun _ => true) = false) (hb : s.beatOf n = false) :
    s.haltChan n code w = (((s.setChan n (haltedChan (s.chan n) code)).hand
      (channelFinding n code (s.chan n).desc w)).raise (.stop n)) := by
  simp [State.haltChan, State.dropWork, s.withdrawChan_none n hr, s.markResidual_none n ho hb, State.setChan, State.chan,
    haltedChan, noPauses]

/-- With no entry in the write queue no head is placed (R104). -/
@[simp] theorem State.placeHead_nil (s : State) (h : s.host.queue = []) : s.placeHead = s := by
  simp [State.placeHead, State.placeHeads, h]

/-- Where no grant may be made the arbiter does nothing (R64). -/
theorem State.grants_of_not_due (s : State) (b : BankNo) (fuel : Nat) (h : s.grantDue b = false) : s.grants b fuel = s := by
  cases fuel <;> simp [State.grants, h]

/-! ### Requests that reach a free bank together (R65) -/

/-- No bank at which two requests have met: nothing is marked. -/
theorem State.meet_of_none (s t : State) (h : ∀ b, s.meetsAt t b = false) : s.meet t = t := by
  simp [State.meet, Four.indices, h]

/-- Nothing has reached a bank since now. -/
@[simp] theorem State.meet_self (s : State) : s.meet s = s := by
  refine s.meet_of_none s fun b => ?_
  cases h : s.candidates b <;> simp [State.meetsAt, h]

/-- The marking touches the mark alone. -/
theorem State.meet_eq (s t : State) :
    ∃ a : Four Arbiter, s.meet t = { t with arbs := a } ∧
      ∀ b, { a.get b with met := false } = { t.arb b with met := false } := by
  have step : ∀ (l : List BankNo) (u : State), (∃ a : Four Arbiter, u = { t with arbs := a } ∧
      ∀ b, { a.get b with met := false } = { t.arb b with met := false }) →
      ∃ a : Four Arbiter, l.foldl (fun u b => if s.meetsAt u b then u.setArb b { u.arb b with met := true } else u) u
        = { t with arbs := a } ∧ ∀ b, { a.get b with met := false } = { t.arb b with met := false } := by
    intro l
    induction l with
    | nil => exact fun u hu => hu
    | cons c rest ih =>
      intro u hu
      refine ih _ ?_
      obtain ⟨a, rfl, ha⟩ := hu
      dsimp only
      split
      · refine ⟨_, rfl, fun b => ?_⟩
        rw [Four.get_set]
        split
        · rename_i hb
          subst hb
          exact ha b
        · exact ha b
      · exact ⟨a, rfl, ha⟩
  exact step _ t ⟨t.arbs, rfl, fun b => rfl⟩

/-- What stands pending at a bank is a matter of its arbiter, its state and its account (R62, R51). -/
theorem State.candidates_congr {s t : State} {b : BankNo} (ha : t.arb b = s.arb b) (hb : t.bank b = s.bank b)
    (hc : t.account b = s.account b) : t.candidates b = s.candidates b := by
  have hp : ∀ r, t.pendingAt b r = s.pendingAt b r := fun r => by cases r <;> simp [State.pendingAt, ha]
  simp [State.candidates, State.refreshAlone, State.refreshRequest, State.refreshing, State.urgency, State.isReady, hp, hb, hc]

/-- At a bank whose arbiter, state and account are as before nothing has met. -/
theorem State.meetsAt_congr {s t : State} {b : BankNo} (ha : t.arb b = s.arb b) (hb : t.bank b = s.bank b)
    (hc : t.account b = s.account b) : s.meetsAt t b = false := by
  cases h : s.candidates b <;> simp [State.meetsAt, s.candidates_congr ha hb hc, h]

/-- A bank at which nothing has met decides by the grant order (R66). -/
theorem State.winner_of_not_met (s : State) (b : BankNo) (h : (s.arb b).met = false) : s.winner b = s.orderWinner b := by
  simp [State.winner, h]

/-- A decision where nothing has met leaves no mark to clear. -/
theorem State.parted_of_not_met (s : State) (b : BankNo) (h : (s.arb b).met = false) : s.parted b = s := by
  simp [State.parted, h]

/-- A bank that leaves READY with no request pending answers nobody (R75). -/
theorem State.answerPending_none (s : State) (b : BankNo) (h : s.noRequests b) : s.answerPending b = s := by
  obtain ⟨hh, hc, hf, hs⟩ := h
  have : s.answeredAt b = [] := by simp [State.answeredAt, hh, hc]
  have e : ({ s.arb b with fill := none, scrub := none } : Arbiter) = s.arb b := by
    cases ha : s.arb b
    simp_all
  have e' : s.setArb b (s.arb b) = s := by simp [State.setArb, State.arb]
  simp [State.answerPending, this, hs, e, e']

/-! ### The next data request -/

/-- With no operation of the channel in flight, what it asks for next is what R123 to R126 say of a channel with nothing outstanding. -/
theorem State.nextRequest_atRest {s : State} {n : ChanNo} (w : Work) (hw : s.chanWriting n = false)
    (hr : s.chanReading n = false) : s.nextRequest n w = requestAtRest n (s.chan n) w := by
  unfold State.nextRequest requestAtRest
  cases w.op <;> simp only [hw, hr, true_and, writeBurst, readBurst, freeSlots, Config.fifoDepth, Config.burstMax]
  · by_cases h : 1 ≤ (s.chan n).fifo.length
    · simp [h]
    · have h0 : (s.chan n).fifo.length = 0 := by omega
      by_cases hu : 1 ≤ w.unread
      · simp only [h0, hu]
        simp
        omega
      · simp [h0, hu]
  · simp only [List.any_eq_true]
end Sys2Proof.Machine
end

