-- ==== Sys2Proof/Tests/Slice0.lean ====
section
/-! SUPPORT. Slice0.lean: the tests. First checks of values that the spec gives; then, for every statement with hypotheses, a state and
operands that meet them all (`witness_…`), clause by clause. -/

namespace Sys2Proof.Tests

set_option Elab.async false

open Sys2Proof Sys2Proof.Machine

/-! ### Small states -/

/-- A group in `st`. -/
def groupIn (st : GroupState) : Group := { state := st, weak := 2 }

/-- Every bank READY with its balance at −4, and group 0 of each bank KEEP: nothing is due. -/
def on : State :=
  { State.reset with
    banks := Four.all { resetBank with state := .ready }
    refresh := Four.all { balance := -4, cursor := 0#8 }
    groups := [(0, groupIn .keep), (256, groupIn .keep), (512, groupIn .keep), (768, groupIn .keep)] }

/-- An operation of `words` words at `addr` with `payload`. -/
def opOf (kind : OpKind) (addr : WordAddr) (words : Nat) (payload : List Stored) : Op :=
  { kind := kind, addr := addr, words := words, payload := payload, cwb := true, residual := false, timing := resetTiming
    periods := 4, elapsed := 0 }

/-- `s` with `o` in flight at bank `b`, its row open. -/
def withOp (s : State) (b : BankNo) (o : Op) : State :=
  s.setBank b { s.bank b with op := some o, openRow := some (rowOf o.addr) }

/-- `s` with `o`, which closed its row, in flight at bank `b` in state `k`. -/
def withClosedOp (s : State) (b : BankNo) (k : BankState) (o : Op) : State :=
  s.setBank b { s.bank b with op := some o, state := k }

/-- `s` with the arbiter of bank 0 replaced. -/
def withArb0 (s : State) (f : Arbiter → Arbiter) : State := s.setArb 0 (f (s.arb 0))

/-- `s` with channel 1 replaced. -/
def withCh1 (s : State) (f : Channel → Channel) : State := s.setChan 1 (f (s.chan 1))

/-- A working descriptor of operation `op` with COUNT 8. -/
def workOf (op : ChanOp) (wb last : Bool) : Work :=
  { op := op, note := true, last := last, wb := wb, count := 8, word1 := 0x1000#32, word2 := 0x2000#32, word3 := 0x40#32
    src := 0x400#22, dst := 0x800#22, unread := 4 }

/-- Channel 1 as it moves the data of `w`, with four words in its FIFO. -/
def moving (w : Work) (c : Channel) : Channel :=
  { c with state := .active, work := some w, remaining := 8, fifo := List.replicate 4 { data := 5#32, last := false } }

/-! ### Well-formed commands -/

theorem test_config_write_is_no_register_write : (Instr.registerWrite 0x01#6 0#32).wellFormed = false := by decide
theorem test_fence_write_is_no_register_write : (Instr.registerWrite 0x35#6 0#32).wellFormed = false := by decide
theorem test_arg_is_a_register_write : (Instr.registerWrite 0x04#6 0#32).wellFormed = true := by decide
theorem test_soft_reset_is_known : (Instr.unknownCommand 0xABCDEF1F#32).wellFormed = false := by decide
theorem test_code_7_is_unknown : (Instr.unknownCommand 0x00000107#32).wellFormed = true := by decide

/-! ### Values the spec gives -/

/-- Section 5.8: the check bits of 0x40080205 are C0 to C5 = 55, C6 = 0. -/
theorem test_check_bits : checkBitsOf 0x40080205#32 = 55#7 := by decide +kernel

/-- R79: the code of zero data is zero. -/
theorem test_check_bits_of_zero : checkBitsOf 0#32 = 0#7 := by decide +kernel

/-- Section 5.8: with D19 flipped the word reads corrected, with syndrome S 25, P 1. -/
theorem test_flipped_data_bit :
    classify { data := 0x40000205#32, check := 55#7 } = .corrected 0x40080205#32 ∧
      syndromeOf { data := 0x40000205#32, check := 55#7 } = { s := 25#6, p := true } := by decide +kernel

/-- 12.1: the reset values of CONFIG, CONFIG2 and ARB_STATUS0. -/
theorem test_reset_config : State.reset.registerRead 0x01#6 = 0x00048818#32 := by decide +kernel
theorem test_reset_config2 : State.reset.registerRead 0x02#6 = 0x320A313F#32 := by decide +kernel
theorem test_reset_arb_status : State.reset.registerRead 0x14#6 = 0x00550000#32 := by decide +kernel

/-- R42: 24 units of 64 MCLK periods after reset. -/
theorem test_tick_period : tickPeriod resetConfig = 1536 := by decide +kernel

/-- R31: segment 9 of group 5 lies 0x800 + 0x100 bytes from the group's base 0x14000. -/
theorem test_fill_segment : fillSegmentBase 5 9 = 0x5240#22 := by decide +kernel

/-- 0.4: the bank, row and column of byte address 0x9ABCDC. -/
theorem test_address_parts :
    bankOf (wordAddrOf 0x009ABCDC#32) = 2 ∧ rowOf (wordAddrOf 0x009ABCDC#32) = 0x357#11 ∧
      columnOf (wordAddrOf 0x009ABCDC#32) = 0x137 := by decide +kernel

/-- R52: the bounds of the urgencies. -/
theorem test_urgencies : (urgencyOf (-4), urgencyOf 0, urgencyOf 4, urgencyOf 6, urgencyOf 7) =
    (.none, .opportunistic, .background, .normal, .urgent) := by decide +kernel

/-- 12.5: the write-back word of a COPY with NOTE and WB, 8 words moved, ended COMPLETE. -/
theorem test_writeback_word : writebackWord (workOf .copy true false) .complete 8 = 0x0A100008#32 := by decide +kernel

/-- R87: byte lanes 0 and 3 of a MERGE. -/
theorem test_merge_lanes : mergeLanes 0x11223344#32 0xAABBCCDD#32 9#4 = 0xAA2233DD#32 := by decide +kernel

/-- R119: a COUNT of 0 is a field fault; a destination below the fence base is a fence fault. -/
theorem test_descriptor_count_zero : validateDescriptor 0#22 0x3FFFFF#22 0x84000000#32 0x1000#32 0x2000#32 0#32 = .inl .descField := by
  decide +kernel
theorem test_descriptor_below_fence : validateDescriptor 0x801#22 0x3FFFFF#22 0x84000004#32 0x1000#32 0x2000#32 0#32 = .inl .fence := by
  decide +kernel

/-- 12.1 gives no command a word of its own bits. -/
theorem test_no_row_has_bits : decodeTableWord 32 0x00000101 = none := by decide

/-! ### Witnesses: the machine and its invariants -/

/-- StepRunsFrontCommand. -/
theorem witness_step : ({ on with pending := [.pinReset] } : State).pending = [] ++ .pinReset :: [] := by decide +kernel

/-- An arbiter with no request but perhaps the host's holds requests of the right kinds when the host's is. -/
theorem hostOnly_kindsOk {a : Arbiter} (host : ∀ r, a.host = some r → r.kind = .hostRead) (ch : a.ch = Four.all none)
    (fill : a.fill = none) (scrub : a.scrub = none) : a.kindsOk :=
  ⟨fun r hr => .inl (host r hr), by simp [ch], by simp [fill], by simp [scrub]⟩

/-- The four banks of `on`. -/
theorem on_banksOk : on.BanksOk := by
  intro b
  fin_cases b
  all_goals
    exact { kinds := hostOnly_kindsOk nofun rfl rfl rfl, closed := nofun, low := by decide, high := by decide
            refreshing := nofun, openRow := nofun, settle := by decide, streak := by decide }

/-- EveryStepKeepsBanks. -/
theorem witness_banks : on.BanksOk ∧ step on = .next on.clock := ⟨on_banksOk, rfl⟩

/-- EveryStepKeepsLog. -/
theorem witness_log : on.LogOk ∧ step on = .next on.clock :=
  ⟨⟨by decide, by decide, by decide⟩, rfl⟩

/-- EveryStepKeepsChannels. -/
theorem witness_channels : on.ChannelsOk ∧ step on = .next on.clock := by
  refine ⟨fun n => ?_, rfl⟩
  match n with
  | 0 | 1 | 2 | 3 => exact ⟨by decide, by decide, by decide⟩

/-- EveryStepKeepsRanges. -/
theorem witness_ranges : on.RangesOk ∧ step on = .next on.clock :=
  ⟨by constructor <;> decide, rfl⟩

/-- EveryStepKeepsTables. -/
theorem witness_tables : on.tablesWf ∧ step on = .next on.clock := ⟨by decide, rfl⟩

/-! ### Witnesses: reset, timers and grants -/

/-- The last segment of group 1 in flight at bank 0. -/
def filling63 : State :=
  withOp { on with
    groups := [(0, groupIn .keep), (1, groupIn .filling), (256, groupIn .keep), (512, groupIn .keep), (768, groupIn .keep)]
    fill := { queue := [{ first := 1, count := 1, next := 1 }], ending := false, segment := 63, restart := false, held := false } }
    0 (opOf .fillSegment (fillSegmentBase 1 63) 64 (List.replicate 64 (encodeWord 0#32)))

/-- Bank 0 alone READY, at +8 on a KEEP group with a KEEP group after it, and its next operation begun. -/
def overdue : State :=
  { on with
    banks := ⟨{ resetBank with state := .ready }, resetBank, resetBank, resetBank⟩
    groups := [(0, groupIn .keep), (1, groupIn .keep)]
    refresh := ⟨{ balance := 8, cursor := 0#8 }, { balance := 0, cursor := 0#8 }, { balance := 0, cursor := 0#8 },
                { balance := 0, cursor := 0#8 }⟩ }

/-- Bank 0 alone READY, at +8 on group 0 being filled, whose segment 5 is pending behind a host read. -/
def overdueFill (ending : Bool) : State :=
  withArb0 (withOp { overdue with
    groups := [(0, groupIn .filling), (1, groupIn .keep)]
    fill := { queue := [{ first := 0, count := 1, next := 0 }], ending := ending, segment := 5, restart := false
              held := false } } 0 (opOf .hostRead 0x1000#22 1 [])) fun a =>
    { a with fill := some { kind := .fillSegment, addr := fillSegmentBase 0 5, words := 64 } }

/-- Row 0 of bank 0 open, its page-hold timer running. -/
def rowOpen : State :=
  on.setBank 0 { on.bank 0 with openRow := some 0#11, holdTimer := some { period := 128, count := 3 } }

/-- A host read of word 5 pending at bank 0, whose row is open, with a balance of +6. -/
def hostAsks : State :=
  withArb0 (rowOpen.setAccount 0 { balance := 6, cursor := 0#8 }) fun a => { a with host := some (readRequest 5#22) }

/-- A queue entry for a word of group 1, which is DISCARD. -/
def lostEntry : HostEntry :=
  { addr := 0x1003#22, lanes := 3#4, data := 7#32, mark := none }

/-- The request of that entry pending at bank 0. -/
def hostLoses : State :=
  withArb0 { on with host := { queue := [lostEntry], cycle := .idle, busEnd := none } } fun a =>
    { a with host := some (headRequest lostEntry) }

/-- The queue head `entryA` carries the check bits of an override, its WRITE pending at bank 0. -/
def hostWrites : State :=
  let e : HostEntry := { addr := 5#22, lanes := 15#4, data := 9#32, mark := some 55#7 }
  withArb0 { rowOpen with host := { queue := [e], cycle := .idle, busEnd := none } } fun a =>
    { a with host := some (headRequest e) }

/-- `on` with the request `q` of `r` pending at bank `b`. -/
def asking (b : BankNo) (r : Requester) (q : Request) : State :=
  let a := on.arb b
  on.setArb b (match r with
    | .refresh => a
    | .host => { a with host := some q }
    | .ch n => { a with ch := a.ch.set n (some q) }
    | .fill => { a with fill := some q }
    | .scrub => { a with scrub := some q })

/-- At the cap: a fetch of channel 1 that is a page hit and one of channel 2 that is none pending at bank 0, the rotation at channel 1. -/
def atTheCap : State :=
  withArb0 (((rowOpen.setAccount 0 { balance := 4, cursor := 0#8 }).setChan 1 { resetChannel with state := .loading }).setChan 2
    { resetChannel with state := .loading }) fun a =>
    { a with streak := 16, rotPos := 1
             ch := ⟨none, some { kind := .fetch 1, addr := 8#22, words := 4 }, some { kind := .fetch 2, addr := 0x200#22, words := 4 },
                    none⟩ }

/-- KeepOnlyByFill. -/
theorem witness_keep :
    filling63.tablesWf ∧ exec (.fillSegmentComplete 0) filling63 = .next (filling63.happen fun t => t.fillSegmentCompletes 0) ∧
      (filling63.group 1).state ≠ .keep ∧ ((filling63.happen fun t => t.fillSegmentCompletes 0).group 1).state = .keep :=
  ⟨by decide +kernel, rfl, by decide +kernel, by decide +kernel⟩

/-- ResetReleaseStartsTheClock, both clauses. -/
theorem witness_reset_release :
    State.reset.pinReset.resetAsserted = true ∧ State.reset.pinReset.retention.req = false ∧
      ({ State.reset.pinReset with retention := { State.reset.pinReset.retention with req := true } } : State).retention.req = true ∧
      ∀ n, (State.reset.pinReset.chan n).state = .idle := by decide +kernel

/-- TickEarnsObligations. -/
theorem witness_tick :
    on.atRest ∧ ∀ b, on.isReady b = true → (on.account b).balance < 8 := by decide +kernel

/-- TickEarnsObligations, at a bank on a group that needs refresh, and at one at −4 on a group that needs none. -/
theorem witness_tick_refreshing :
    let s := (withOp on 0 (opOf .hostRead 0#22 1 [])).setAccount 0 { balance := 3, cursor := 0#8 }
    let u := on.setAccount 1 { balance := -4, cursor := 5#8 }
    s.atRest ∧ s.isReady 0 = true ∧ s.needsRefresh (s.cursorGroup 0) = true ∧ u.atRest ∧ u.isReady 1 = true ∧
      u.refreshing 1 = false ∧ u.needsRefresh (u.cursorGroup 1) = false := by decide +kernel

/-- OverrunLapsesAGroup, with a column operation in flight. -/
theorem witness_overrun :
    let s := withOp overdue 0 (opOf .hostRead 0#22 1 [])
    s.atRest ∧ s.tablesWf ∧ s.isReady 0 = true ∧ (∀ c, c ≠ 0 → s.isReady c = false) ∧ (s.account 0).balance = 8 ∧
      s.log.records.length < 8 ∧ (s.group 0).state = .keep ∧ s.refreshing 0 = false ∧ 0 = s.cursorGroup 0 ∧
      s.needsRefresh (globalGroup 0 ((s.account 0).cursor + 1#8)) = true := by decide +kernel

/-- OverrunLapsesAGroup, with a REFRESH in flight. -/
theorem witness_overrun_refreshing :
    let s := withClosedOp overdue 0 .ready (opOf .refresh 0#22 0 [])
    s.atRest ∧ s.tablesWf ∧ s.isReady 0 = true ∧ (∀ c, c ≠ 0 → s.isReady c = false) ∧ (s.account 0).balance = 8 ∧
      s.log.records.length < 8 ∧ (s.group 0).state = .keep ∧
      (s.bank 0).op = some (opOf .refresh 0#22 0 []) ∧ (opOf .refresh 0#22 0 []).kind = .refresh ∧
      0 = groupOf (opOf .refresh 0#22 0 []).addr := by decide +kernel

/-- OverrunLapsesAGroup, a FILLING group at the cursor, and one of an ending entry. -/
theorem witness_overrun_filling : ∀ x, let s := overdueFill x
    s.atRest ∧ s.tablesWf ∧ s.isReady 0 = true ∧ (∀ c, c ≠ 0 → s.isReady c = false) ∧ (s.account 0).balance = 8 ∧
      s.log.records.length < 8 ∧ s.refreshing 0 = false ∧ 0 = s.cursorGroup 0 ∧
      s.needsRefresh (globalGroup 0 ((s.account 0).cursor + 1#8)) = true ∧ s.fillingGroup = some 0 ∧ bankOfGroup 0 = 0 ∧
      ∀ c, c ≠ 0 → (s.arb c).fill = none := by decide +kernel

/-- PageHoldExpiryCloses. -/
theorem witness_page_hold :
    rowOpen.atRest ∧ rowOpen.isFree 0 = true ∧ (rowOpen.bank 0).holdTimer = some { period := 128, count := 3 } := by decide +kernel

/-- GrantRanksRefreshThenHost, the REFRESH at +7. -/
theorem witness_grant_refresh :
    let s := on.setAccount 0 { balance := 7, cursor := 0#8 }
    s.decides 0 ∧ 7 ≤ (s.account 0).balance := by decide +kernel

/-- GrantRanksRefreshThenHost, the host at +6: a read, and a write with carried check bits. -/
theorem witness_grant_host :
    hostAsks.decides 0 ∧ (hostAsks.account 0).balance ≤ 6 ∧ (hostAsks.arb 0).host = some (readRequest 5#22) ∧
      (hostAsks.group (groupOf (readRequest 5#22).addr)).state = .keep ∧ hostAsks.host.queue = [] ∧
      hostWrites.decides 0 ∧ (hostWrites.account 0).balance ≤ 6 ∧
      (hostWrites.arb 0).host.any (fun q => q.kind == .hostWrite) = true ∧ (hostWrites.group (groupOf 5#22)).state = .keep := by
  decide +kernel

/-- GrantRanksRefreshThenHost, REFRESH alone: at +5, at 0 with no row open, and at 0 with one open. -/
theorem witness_grant_refresh_alone :
    let s := on.setAccount 0 { balance := 5, cursor := 0#8 }
    let u := on.setAccount 0 { balance := 0, cursor := 0#8 }
    let v := rowOpen.setAccount 0 { balance := 0, cursor := 0#8 }
    s.decides 0 ∧ s.noRequests 0 ∧ -3 ≤ (s.account 0).balance ∧ (s.account 0).balance ≤ 6 ∧ 1 ≤ (s.account 0).balance ∧
      u.decides 0 ∧ u.noRequests 0 ∧ -3 ≤ (u.account 0).balance ∧ (u.bank 0).openRow = none ∧
      v.decides 0 ∧ v.noRequests 0 ∧ -3 ≤ (v.account 0).balance ∧ (v.account 0).balance ≤ 0 ∧ (v.bank 0).openRow ≠ none := by
  decide +kernel

/-- GrantRanksRefreshThenHost, a scrub segment. -/
theorem witness_grant_scrub :
    let q : Request := { kind := .scrubSegment, addr := 0#22, words := 16 }
    let s := asking 0 .scrub q
    s.decides 0 ∧ (s.account 0).balance ≤ 4 ∧ s.solePending 0 .scrub q ∧ (s.group (groupOf q.addr)).state = .keep := by
  decide +kernel

/-- GrantRanksRefreshThenHost, lapsing grants: a queue head, a host read, a channel's data read and the scrubber in the last row. -/
theorem witness_grant_lapse :
    hostLoses.decides 0 ∧ (hostLoses.account 0).balance ≤ -4 ∧ hostLoses.solePending 0 .host (headRequest lostEntry) ∧
      hostLoses.mayBeTurnedAway 0 .host (headRequest lostEntry) ∧ (hostLoses.group (groupOf lostEntry.addr)).state ≠ .keep := by
  refine ⟨?_, ?_, ?_, ⟨?_, .inr ⟨_, rfl, rfl⟩⟩, ?_⟩ <;> decide +kernel

theorem witness_grant_lapse_read :
    let q := readRequest 0x1000#22
    let s := asking 0 .host q
    s.decides 0 ∧ (s.account 0).balance ≤ -4 ∧ s.solePending 0 .host q ∧ s.mayBeTurnedAway 0 .host q ∧
      (s.group (groupOf q.addr)).state ≠ .keep := by
  refine ⟨?_, ?_, ?_, ⟨?_, .inl ⟨rfl, rfl⟩⟩, ?_⟩ <;> decide +kernel

theorem witness_grant_lapse_channel :
    let q : Request := { kind := .dataRead 1, addr := 0x1000#22, words := 8 }
    let s := asking 0 (.ch 1) q
    s.decides 0 ∧ (s.account 0).balance ≤ -4 ∧ s.solePending 0 (.ch 1) q ∧ s.mayBeTurnedAway 0 (.ch 1) q ∧
      (s.group (groupOf q.addr)).state ≠ .keep := by
  repeat' apply And.intro
  all_goals decide +kernel

theorem witness_grant_lapse_scrub :
    let q : Request := { kind := .scrubSegment, addr := scrubSegmentBase 3 2047#11 0#5, words := 16 }
    let s := { asking 3 .scrub q with scrub := { on.scrub with bank := 3, row := 2047#11, state := .wait } }
    s.decides 3 ∧ (s.account 3).balance ≤ -4 ∧ s.solePending 3 .scrub q ∧ s.mayBeTurnedAway 3 .scrub q ∧
      (s.group (groupOf q.addr)).state ≠ .keep := by
  repeat' apply And.intro
  all_goals decide +kernel

/-- StreakCapYieldsTheBank: at the cap, below it, and with the two requests together at the bank. -/
theorem witness_capped :
    let q : Request := { kind := .fetch 1, addr := 8#22, words := 4 }
    let r : Request := { kind := .fetch 2, addr := 0x200#22, words := 4 }
    let s := atTheCap
    let u := withArb0 s fun a => { a with streak := 15 }
    let v := withArb0 (s.setAccount 0 { balance := 0, cursor := 0#8 }) fun a => { a with met := true }
    s.resetAsserted = false ∧ s.isFree 0 = true ∧ (s.bank 0).offWaiting = false ∧ (s.bank 0).order = none ∧
      s.readWaitsAt 0 = false ∧ (s.account 0).balance ≤ 4 ∧ (s.arb 0).host = none ∧ (s.arb 0).fill = none ∧
      (∀ k, k ≠ 1 → k ≠ 2 → (s.arb 0).ch.get k = none) ∧ (s.arb 0).ch.get 1 = some q ∧
      (s.arb 0).ch.get 2 = some r ∧ (s.bank 0).openRow = some (rowOf q.addr) ∧ (s.bank 0).openRow ≠ some (rowOf r.addr) ∧
      (s.arb 0).rotPos.val = (1 : ChanNo).val ∧ (s.chan 2).state = .loading ∧ (s.group (groupOf r.addr)).state = .keep ∧
      (s.arb 0).met = false ∧ (s.arb 0).streak = 16 ∧ (s.chan 1).state = .loading ∧ (s.group (groupOf q.addr)).state = .keep ∧
      (u.arb 0).met = false ∧ (u.arb 0).streak < 16 ∧ (v.arb 0).met = true ∧ (v.account 0).balance ≤ 0 ∧
      (v.arb 0).scrub = none := by decide +kernel

/-- What BANK_GRANT makes of the state `hostAsks`. -/
def hostGranted : State := hostAsks.ownIfDue (.bankGrant 0)

/-- GrantReadsOnlyKept: the banks of `hostAsks`. -/
theorem hostAsks_banksOk : hostAsks.BanksOk := by
  intro b
  match b with
  | 0 =>
    exact { on_banksOk 0 with
      high := by decide
      openRow := fun _ => rfl
      closed := nofun
      low := by decide
      refreshing := by decide
      kinds := hostOnly_kindsOk (fun r hr => by cases hr; rfl) rfl rfl rfl }
  | 1 => exact { on_banksOk 1 with }
  | 2 => exact { on_banksOk 2 with }
  | 3 => exact { on_banksOk 3 with }

/-- GrantReadsOnlyKept. -/
theorem witness_grant_kept : hostAsks.tablesWf ∧ hostAsks.BanksOk ∧ exec (.bankGrant 0) hostAsks = .next hostGranted ∧
    (hostAsks.bank 0).op = none ∧
    (hostGranted.bank 0).op.any (fun o => o.kind != .refresh && o.kind != .fillSegment) = true :=
  ⟨by decide +kernel, hostAsks_banksOk, rfl, by decide +kernel, by decide +kernel⟩

/-! ### Witnesses: completions for the host, the fill engine and the scrubber -/

/-- A host READ of word 5. -/
def readOp : Op :=
  opOf .hostRead 5#22 1 []

/-- A full-word queue entry for word 5. -/
def entryA : HostEntry :=
  { addr := 5#22, lanes := 15#4, data := 9#32, mark := none }

/-- A partial queue entry for word 6. -/
def entryB : HostEntry :=
  { addr := 6#22, lanes := 1#4, data := 9#32, mark := none }

/-- Segment 5 of group 1 in flight at bank 0. -/
def filling5 : State :=
  { filling63 with fill := { filling63.fill with segment := 5 } }

/-- The scrub segment at word 0. -/
def scrubOp : Op :=
  opOf .scrubSegment 0#22 16 []

/-- That segment in flight, the cursor at segment 31 of the last row. -/
def scrubbing : State :=
  { withOp on 0 scrubOp with scrub := { bank := 3, row := 2047#11, segment := 31#5, credits := 0, pass := 65535#16, state := .active } }

/-- HostReadReturnsData, a clean word and an uncorrectable one. -/
theorem witness_host_read :
    let s := withOp on 0 readOp
    let u := withOp (on.setWord 5#22 { data := 3#32, check := 0#7 }) 0 readOp
    s.atRest ∧ (s.bank 0).op = some readOp ∧ readOp.kind = .hostRead ∧ readOp.words = 1 ∧ classify (s.word 5#22) = .clean 0#32 ∧
      u.atRest ∧ (u.bank 0).op = some readOp ∧ classify (u.word 5#22) = .uncorrectable ∧ u.log.records.length < 8 := by decide +kernel

/-- HostReadReturnsData, an uncorrectable word at a full log, and a corrected word whose CORRECTED record is the newest. -/
theorem witness_host_read_log :
    let r : Record := { finding := wordFinding .corrected .host 5#22 { s := 3#6, p := true }, seq := 0#8, repeats := 14 }
    let o := { readOp with cwb := false }
    let s := { withOp (on.setWord 5#22 { data := 3#32, check := 0#7 }) 0 readOp with
      log := { on.log with records := List.replicate 8 r, overflow := 255 } }
    let u := { withOp ((on.setWord 5#22 { data := 1#32, check := 0#7 }).setGroup 0 { state := .keep, weak := 15 }) 0 o with
      log := { on.log with records := [r] } }
    s.atRest ∧ (s.bank 0).op = some readOp ∧ classify (s.word 5#22) = .uncorrectable ∧ 8 ≤ s.log.records.length ∧
      u.atRest ∧ (u.bank 0).op = some o ∧ o.cwb = false ∧ classify (u.word 5#22) = .corrected 0#32 ∧
      15 ≤ (u.group (groupOf 5#22)).weak ∧ u.log.records = [] ++ [r] ∧ r.finding.kind = .corrected ∧
      r.finding.addr = some 5#22 := by decide +kernel

/-- CorrectedReadIsRepaired, with a weak count of 2, and of 3, one below the threshold. -/
theorem witness_corrected_read :
    let s := withOp (on.setWord 5#22 { data := 1#32, check := 0#7 }) 0 readOp
    let u := s.setGroup 0 { state := .keep, weak := 3 }
    s.atRest ∧ s.tablesWf ∧ (s.bank 0).op = some readOp ∧ readOp.cwb = true ∧ classify (s.word 5#22) = .corrected 0#32 ∧
      (s.group (groupOf 5#22)).state = .keep ∧ (s.group (groupOf 5#22)).weak < 15 ∧ s.log.records = [] ∧
      (s.group (groupOf 5#22)).weak + 1 ≠ s.config.weakThreshold.toNat ∧ u.atRest ∧ u.tablesWf ∧
      classify (u.word 5#22) = .corrected 0#32 ∧ (u.group (groupOf 5#22)).weak + 1 = u.config.weakThreshold.toNat := by decide +kernel

/-- HostWriteStores. -/
theorem witness_host_write :
    let o := opOf .hostWrite 5#22 1 [encodeWord 9#32]
    let s := withOp { on with host := { queue := [entryA, entryB], cycle := .idle, busEnd := none } } 0 o
    s.atRest ∧ s.tablesWf ∧ (s.bank 0).op = some o ∧ o.kind = .hostWrite ∧ o.payload = [encodeWord 9#32] ∧
      s.host.queue = [entryA, entryB] ∧ ∀ f ∈ [entryB], s.isReady (bankOf f.addr) = true := by decide +kernel

/-- MergeStoresLanes, a clean target and an uncorrectable one. -/
theorem witness_merge :
    let o := opOf .hostMerge 6#22 1 []
    let s := withOp { on with host := { queue := [entryB], cycle := .idle, busEnd := none } } 0 o
    let u := withOp ({ on with host := { queue := [entryB], cycle := .idle, busEnd := none } }.setWord 6#22 { data := 3#32, check := 0#7 }) 0 o
    s.atRest ∧ s.tablesWf ∧ (s.bank 0).op = some o ∧ o.kind = .hostMerge ∧ s.host.queue = [entryB] ∧
      classify (s.word o.addr) = .clean 0#32 ∧ u.atRest ∧ u.tablesWf ∧ classify (u.word o.addr) = .uncorrectable := by decide +kernel

/-- MergeStoresLanes, a target that reads corrected. -/
theorem witness_merge_corrected :
    let o := opOf .hostMerge 6#22 1 []
    let s := withOp ({ on with host := { queue := [entryB], cycle := .idle, busEnd := none } }.setWord 6#22 { data := 1#32, check := 0#7 }) 0 o
    s.atRest ∧ s.tablesWf ∧ (s.bank 0).op = some o ∧ s.host.queue = [entryB] ∧ classify (s.word o.addr) = .corrected 0#32 ∧
      s.log.records = [] ∧ (s.group (groupOf o.addr)).state = .keep ∧ (s.group (groupOf o.addr)).weak < 15 ∧
      (s.group (groupOf o.addr)).weak + 1 ≠ s.config.weakThreshold.toNat := by decide +kernel

/-- FillSegmentsMakeAGroupKept, segment 5 and segment 63. -/
theorem witness_fill_segment :
    let e : FillEntry := { first := 1, count := 1, next := 1 }
    let o := opOf .fillSegment (fillSegmentBase 1 63) 64 (List.replicate 64 (encodeWord 0#32))
    filling5.atRest ∧ filling5.tablesWf ∧ (filling5.bank 0).op = some o ∧ filling5.fill.queue = [e] ∧ filling5.fill.ending = false ∧
      filling5.fill.restart = false ∧ filling5.fill.segment < 63 ∧ filling5.fill.held = false ∧
      (filling5.group e.next).state = .filling ∧ filling5.isReady (bankOfGroup e.next) = true ∧
      filling63.atRest ∧ filling63.tablesWf ∧ (filling63.bank 0).op = some o ∧ filling63.fill.queue = [e] ∧
      filling63.fill.segment = 63 := by decide +kernel

/-- FillSegmentsMakeAGroupKept: the grant, a hold, a restart and an ending entry. -/
theorem witness_fill_other :
    let q : Request := { kind := .fillSegment, addr := fillSegmentBase 1 5, words := 64 }
    let g := (asking 0 .fill q).setGroup 1 (groupIn .filling)
    let h := { filling5 with fill := { filling5.fill with held := true } }
    let r := { filling5 with fill := { filling5.fill with restart := true } }
    let x := { filling5 with fill := { filling5.fill with ending := true } }
    g.decides 0 ∧ (g.account 0).balance ≤ 4 ∧ g.solePending 0 .fill q ∧ (g.group (groupOf q.addr)).state = .filling ∧
      h.atRest ∧ h.fill.segment < 63 ∧ h.fill.held = true ∧ r.atRest ∧ r.fill.restart = true ∧ r.fill.held = false ∧
      (r.group 1).state = .filling ∧ r.isReady (bankOfGroup 1) = true ∧ x.atRest ∧ x.fill.ending = true := by decide +kernel

/-- ScrubSegmentMovesTheCursor, at the wrap and before it. -/
theorem witness_scrub_segment :
    let s := { scrubbing with scrub := { scrubbing.scrub with segment := 30#5 } }
    scrubbing.atRest ∧ (scrubbing.bank 0).op = some scrubOp ∧ scrubOp.words = 16 ∧ scrubOp.residual = false ∧
      (burstAddrs scrubOp.addr 16).map (fun w => classify (scrubbing.word w)) = List.replicate 16 (.clean 0#32) ∧ scrubbing.scrub.state = .active ∧
      scrubbing.scrub.credits = 0 ∧ scrubbing.scrub.row = 2047#11 ∧ scrubbing.scrub.bank = 3 ∧
      s.atRest ∧ (s.bank 0).op = some scrubOp ∧ s.scrub.state = .active ∧ s.scrub.credits = 0 := by decide +kernel

/-- The scrub segment at word 0 in flight at bank 0, the cursor at segment `seg` of row `row` of bank `b` with `credits` left. -/
def scrubAt (b : BankNo) (row : RowNo) (seg : BitVec 5) (credits : Nat) (x : ScrubState) : State :=
  { withOp on 0 scrubOp with scrub := { bank := b, row := row, segment := seg, credits := credits, pass := 0#16, state := x } }

/-- ScrubSegmentMovesTheCursor: the last row of bank 0, a held scrubber, a segment disowned, and a segment with one bad word. -/
theorem witness_scrub_other :
    let s := scrubAt 0 2047#11 31#5 0 .active
    let h := scrubAt 0 0#11 0#5 0 .held
    let o := { scrubOp with residual := true }
    let r := withOp on 0 o
    let c := (scrubAt 0 0#11 0#5 0 .active).setWord 5#22 { data := 1#32, check := 0#7 }
    let u := (scrubAt 0 0#11 0#5 0 .active).setWord 5#22 { data := 3#32, check := 0#7 }
    s.atRest ∧ (s.bank 0).op = some scrubOp ∧ h.atRest ∧ h.scrub.state = .held ∧ r.atRest ∧ (r.bank 0).op = some o ∧
      o.residual = true ∧ c.atRest ∧ c.tablesWf ∧ 5#22 ∈ burstAddrs scrubOp.addr 16 ∧
      (burstAddrs scrubOp.addr 16).map (fun w => classify (c.word w)) =
        List.replicate 5 (.clean 0#32) ++ [.corrected 0#32] ++ List.replicate 10 (.clean 0#32) ∧
      c.log.records = [] ∧ (c.group (groupOf 5#22)).state = .keep ∧ (c.group (groupOf 5#22)).weak < 15 ∧
      (c.group (groupOf 5#22)).weak + 1 ≠ c.config.weakThreshold.toNat ∧ u.atRest ∧
      (burstAddrs scrubOp.addr 16).map (fun w => classify (u.word w)) =
        List.replicate 5 (.clean 0#32) ++ [.uncorrectable] ++ List.replicate 10 (.clean 0#32) := by decide +kernel

/-- ScrubSegmentMovesTheCursor, the searches: the row still qualifies, group 256 is the next, group 0 is found across the wrap, and none is. -/
theorem witness_scrub_search :
    let s := scrubAt 0 7#11 3#5 1 .active
    let u := scrubAt 0 8#11 3#5 1 .active
    let v := scrubAt 3 8#11 3#5 1 .active
    let n := { s with groups := [] }
    s.atRest ∧ (s.bank 0).op = some scrubOp ∧ s.scrub.segment ≠ 31#5 ∧ 1 ≤ s.scrub.credits ∧ s.scrubTarget (groupOfRow 0 7#11) = true ∧
      u.atRest ∧ groupOfRow 0 8#11 = 1 ∧ (u.group 256).state = .keep ∧ u.isReady (bankOfGroup 256) = true ∧
      (∀ k < 256, 1 ≤ k → (u.group k).state ≠ .keep) ∧
      v.atRest ∧ groupOfRow 3 8#11 = 769 ∧ (v.group 0).state = .keep ∧ (∀ k < 1024, 769 ≤ k → (v.group k).state ≠ .keep) ∧
      n.atRest ∧ ∀ g < 1024, (n.group g).state ≠ .keep := by decide +kernel

/-! ### Witnesses: the channels -/

/-- The fetch of channel 1 of the descriptor at 0. -/
def fetchOp : Op :=
  opOf (.fetch 1) 0#22 4 []

/-- That fetch in flight, the words `w0`, 0x1000, 0x2000 and 0 at the descriptor. -/
def fetching (w0 : Word) (p : Pauses) : State :=
  (withOp (withCh1 on fun c => { c with state := .loading, pauses := p }) 0 fetchOp).setWords 0#22
    [encodeWord w0, encodeWord 0x1000#32, encodeWord 0x2000#32, encodeWord 0#32]

/-- A data read of channel 1, four words at 0x400. -/
def readOp1 : Op :=
  opOf (.dataRead 1) 0x400#22 4 []

/-- A data write of channel 1, `k` words at 0x800. -/
def writeOp1 (k : Nat) : Op :=
  opOf (.dataWrite 1) 0x800#22 k (List.replicate k (encodeWord 5#32))

/-- The write-back of channel 1. -/
def wbOp : Op :=
  opOf (.writeback 1) 0#22 1 [encodeWord 0x0A100008#32]

/-- It in flight, with outcome `x` and LAST `last`. -/
def writingBack (x : DescOutcome) (last : Bool) : State :=
  withOp (withCh1 on fun c => { c with state := .active, work := some (workOf .copy true last), ended := some x }) 0 wbOp

/-- FetchPausesOrHalts, OWN 0. -/
theorem witness_fetch_unowned :
    let s := fetching 0x04000004#32 noPauses
    s.atRest ∧ (s.bank 0).op = some fetchOp ∧ fetchOp.kind = .fetch 1 ∧ fetchOp.words = 4 ∧ fetchOp.residual = false ∧
      (s.chan 1).aborting = false ∧ s.portQuiet ∧
      (burstAddrs fetchOp.addr 4).map (fun w => classify (s.word w)) = [.clean 0x04000004#32, .clean 0x1000#32, .clean 0x2000#32, .clean 0#32] ∧
      descOwn 0x04000004#32 = false := by decide +kernel

/-- FetchPausesOrHalts, a COUNT of 0. -/
theorem witness_fetch_faulty :
    let s := fetching 0x84000000#32 noPauses
    s.atRest ∧ (s.bank 0).op = some fetchOp ∧ fetchOp.kind = .fetch 1 ∧ fetchOp.words = 4 ∧ fetchOp.residual = false ∧
      (s.chan 1).aborting = false ∧ s.portQuiet ∧
      (burstAddrs fetchOp.addr 4).map (fun w => classify (s.word w)) = [.clean 0x84000000#32, .clean 0x1000#32, .clean 0x2000#32, .clean 0#32] ∧
      descOwn 0x84000000#32 = true ∧
      validateDescriptor (s.chan 1).fenceBase (s.chan 1).fenceLimit 0x84000000#32 0x1000#32 0x2000#32 0#32 = .inl .descField ∧
      s.soleWork 1 0 ∧ s.log.records.length < 8 := by decide +kernel

/-- FetchPausesOrHalts, an uncorrectable word 2. -/
theorem witness_fetch_bad :
    let s := (fetching 0x84000004#32 noPauses).setWord 2#22 { data := 3#32, check := 0#7 }
    s.atRest ∧ (s.bank 0).op = some fetchOp ∧ (s.chan 1).aborting = false ∧ s.portQuiet ∧ 2#22 ∈ burstAddrs fetchOp.addr 4 ∧
      (burstAddrs fetchOp.addr 4).map (fun w => classify (s.word w)) = [.clean 0x84000004#32, .clean 0x1000#32, .uncorrectable, .clean 0#32] ∧
      s.soleWork 1 0 ∧ s.log.records.length < 7 := by decide +kernel

/-- FetchInstallsDescriptor, with a pause reason. -/
theorem witness_fetch_paused :
    let s := fetching 0x84000004#32 ⟨true, false, false⟩
    s.atRest ∧ (s.bank 0).op = some fetchOp ∧ fetchOp.kind = .fetch 1 ∧ fetchOp.words = 4 ∧ fetchOp.residual = false ∧
      (s.chan 1).aborting = false ∧ s.portQuiet ∧
      (burstAddrs fetchOp.addr 4).map (fun w => classify (s.word w)) = [.clean 0x84000004#32, .clean 0x1000#32, .clean 0x2000#32, .clean 0#32] ∧
      descOwn 0x84000004#32 = true ∧
      validateDescriptor (s.chan 1).fenceBase (s.chan 1).fenceLimit 0x84000004#32 0x1000#32 0x2000#32 0#32 = .inr .copy ∧
      (s.chan 1).pauses.any = true := by decide +kernel

/-- FetchInstallsDescriptor, a COPY without one. -/
theorem witness_fetch_copy :
    let s := fetching 0x84000004#32 noPauses
    s.atRest ∧ (s.bank 0).op = some fetchOp ∧ fetchOp.kind = .fetch 1 ∧ fetchOp.words = 4 ∧ fetchOp.residual = false ∧
      (s.chan 1).aborting = false ∧ s.portQuiet ∧
      (burstAddrs fetchOp.addr 4).map (fun w => classify (s.word w)) = [.clean 0x84000004#32, .clean 0x1000#32, .clean 0x2000#32, .clean 0#32] ∧
      descOwn 0x84000004#32 = true ∧
      validateDescriptor (s.chan 1).fenceBase (s.chan 1).fenceLimit 0x84000004#32 0x1000#32 0x2000#32 0#32 = .inr .copy ∧
      (s.chan 1).pauses.any = false ∧ s.soleWork 1 0 ∧ s.isReady (bankOf (wordAddrOf 0x1000#32)) = true := by decide +kernel

/-- FetchInstallsDescriptor, a PATTERN, a STREAM_OUT and a STREAM_IN whose SRQ line is high. -/
theorem witness_fetch_others :
    let s := fetching 0x94000004#32 noPauses
    let u := fetching 0xB4000004#32 noPauses
    let v := (fetching 0xA4000004#32 noPauses).setSrq 1 true
    let words : State → List ReadClass := fun x => (burstAddrs fetchOp.addr 4).map fun w => classify (x.word w)
    s.atRest ∧ s.portQuiet ∧ words s = [.clean 0x94000004#32, .clean 0x1000#32, .clean 0x2000#32, .clean 0#32] ∧
      descOwn 0x94000004#32 = true ∧
      validateDescriptor (s.chan 1).fenceBase (s.chan 1).fenceLimit 0x94000004#32 0x1000#32 0x2000#32 0#32 = .inr .pattern ∧
      (s.chan 1).pauses.any = false ∧ s.soleWork 1 0 ∧ s.isReady (bankOf (wordAddrOf 0x2000#32)) = true ∧
      u.atRest ∧ u.portQuiet ∧ words u = [.clean 0xB4000004#32, .clean 0x1000#32, .clean 0x2000#32, .clean 0#32] ∧
      validateDescriptor (u.chan 1).fenceBase (u.chan 1).fenceLimit 0xB4000004#32 0x1000#32 0x2000#32 0#32 = .inr .streamOut ∧
      u.soleWork 1 0 ∧ u.isReady (bankOf (wordAddrOf 0x1000#32)) = true ∧
      v.atRest ∧ v.portQuiet ∧ words v = [.clean 0xA4000004#32, .clean 0x1000#32, .clean 0x2000#32, .clean 0#32] ∧
      validateDescriptor (v.chan 1).fenceBase (v.chan 1).fenceLimit 0xA4000004#32 0x1000#32 0x2000#32 0#32 = .inr .streamIn ∧
      v.soleWork 1 0 ∧ v.stream.beat = none ∧ v.stream.srq.get 1 = true := by decide +kernel

/-- ValidDescriptorLiesInTheFence, with the window exactly the destination. -/
theorem witness_fence :
    validateDescriptor 0x800#22 0x803#22 0x84000004#32 0x1000#32 0x2000#32 0#32 = .inr .copy ∧ usesDst .copy = true ∧
      usesSrc .copy = true ∧ 3 < descCount 0x84000004#32 := by decide +kernel

/-- ChannelReadFillsTheFifo, a COPY. -/
theorem witness_channel_read_copy :
    let s := withOp (withCh1 on (moving (workOf .copy true false))) 0 readOp1
    s.atRest ∧ (s.bank 0).op = some readOp1 ∧ readOp1.kind = .dataRead 1 ∧ (s.chan 1).work = some (workOf .copy true false) ∧
      readOp1.residual = false ∧ (s.chan 1).aborting = false ∧
      (burstAddrs readOp1.addr readOp1.words).map (fun x => classify (s.word x)) = [0#32, 0#32, 0#32, 0#32].map ReadClass.clean ∧
      s.allReady ∧ s.portQuiet ∧ runs (s.chan 1) = true ∧ s.soleWork 1 0 := by decide +kernel

/-- ChannelReadFillsTheFifo, a STREAM_OUT whose SRQ is high. -/
theorem witness_channel_read_stream :
    let s := (withOp (withCh1 on fun c => { moving (workOf .streamOut true false) c with fifo := [] }) 0 readOp1).setSrq 1 true
    s.atRest ∧ (s.bank 0).op = some readOp1 ∧ readOp1.kind = .dataRead 1 ∧ (s.chan 1).work = some (workOf .streamOut true false) ∧
      readOp1.residual = false ∧ (s.chan 1).aborting = false ∧
      (burstAddrs readOp1.addr readOp1.words).map (fun x => classify (s.word x)) = [0#32, 0#32, 0#32, 0#32].map ReadClass.clean ∧
      s.allReady ∧ runs (s.chan 1) = true ∧ s.stream.beat = none ∧ s.stream.srq.get 1 = true ∧ (s.chan 1).fifo = [] ∧
      ∀ m, s.eligible m = false := by decide +kernel

/-- ChannelReadFillsTheFifo, a residual read. -/
theorem witness_channel_read_residual :
    let o := { readOp1 with residual := true }
    let s := withOp (withCh1 on fun c => { c with residual := true }) 0 o
    s.atRest ∧ (s.bank 0).op = some o ∧ o.kind = .dataRead 1 ∧ o.residual = true ∧ s.portQuiet ∧
      (burstAddrs o.addr o.words).map (fun w => classify (s.word w)) = List.replicate 4 (.clean 0#32) := by decide +kernel

/-- ChannelReadFillsTheFifo, an uncorrectable word. -/
theorem witness_channel_read_bad :
    let o := opOf (.dataRead 1) 0x400#22 1 []
    let s := withOp ((withCh1 on (moving (workOf .copy true false))).setWord 0x400#22 { data := 3#32, check := 0#7 }) 0 o
    s.atRest ∧ (s.bank 0).op = some o ∧ o.kind = .dataRead 1 ∧ o.words = 1 ∧ o.residual = false ∧ (s.chan 1).aborting = false ∧
      classify (s.word o.addr) = .uncorrectable ∧ s.soleWork 1 0 ∧ s.portQuiet ∧ s.log.records.length < 7 := by decide +kernel

/-- Channel 1 at work on `w` with the data request `q` pending at bank 0. -/
def dataAsks (w : Work) (q : Request) : State :=
  withCh1 (asking 0 (.ch 1) q) (moving w)

/-- ChannelReadFillsTheFifo, the grants: a STREAM_OUT read, and a COPY read beside words to write. -/
theorem witness_channel_read_grant :
    let q : Request := { kind := .dataRead 1, addr := 0x400#22, words := 4 }
    let s := dataAsks (workOf .streamOut true false) q
    let u := dataAsks (workOf .copy true false) q
    s.decides 0 ∧ (s.account 0).balance ≤ 4 ∧ s.solePending 0 (.ch 1) q ∧ (∀ c, c ≠ 0 → (s.arb c).ch.get 1 = none) ∧
      (s.group (groupOf q.addr)).state = .keep ∧ (s.chan 1).work = some (workOf .streamOut true false) ∧
      u.decides 0 ∧ u.solePending 0 (.ch 1) q ∧ (u.chan 1).work = some (workOf .copy true false) ∧ (u.chan 1).fifo ≠ [] ∧
      runs (u.chan 1) = true ∧ u.chanWriting 1 = false ∧ u.isReady (bankOf (workOf .copy true false).dst) = true := by
  decide +kernel

/-- ChannelWriteCountsDown, words left over. -/
theorem witness_channel_write :
    let s := withOp (withCh1 on (moving (workOf .copy true false))) 0 (writeOp1 4)
    s.atRest ∧ s.tablesWf ∧ (s.bank 0).op = some (writeOp1 4) ∧ (writeOp1 4).kind = .dataWrite 1 ∧ (writeOp1 4).residual = false ∧
      (writeOp1 4).payload.length = (writeOp1 4).words ∧ (writeOp1 4).words ≤ 8 ∧ (s.chan 1).work = some (workOf .copy true false) ∧
      (s.chan 1).aborting = false ∧ s.portQuiet ∧ (writeOp1 4).words < (s.chan 1).remaining ∧
      (∀ x ∈ (s.chan 1).fifo, x.last = false) ∧ s.allReady := by decide +kernel

/-- ChannelWriteCountsDown, the last words of a PATTERN. -/
theorem witness_channel_write_ends :
    let s := withOp (withCh1 on (moving (workOf .pattern true false))) 0 (writeOp1 8)
    s.atRest ∧ s.tablesWf ∧ (s.bank 0).op = some (writeOp1 8) ∧ (writeOp1 8).kind = .dataWrite 1 ∧ (writeOp1 8).residual = false ∧
      (writeOp1 8).payload.length = (writeOp1 8).words ∧ (writeOp1 8).words ≤ 8 ∧ (s.chan 1).work = some (workOf .pattern true false) ∧
      (s.chan 1).aborting = false ∧ s.portQuiet ∧ (writeOp1 8).words = (s.chan 1).remaining ∧
      (workOf .pattern true false).wb = true ∧ s.isReady (bankOf (descWord (s.chan 1).desc)) = true := by decide +kernel

/-- ChannelWriteCountsDown, the grants: a PATTERN write, and a COPY write beside words to read. -/
theorem witness_channel_write_grant :
    let q : Request := { kind := .dataWrite 1, addr := 0x800#22, words := 4 }
    let s := dataAsks (workOf .pattern true false) q
    let u := dataAsks (workOf .copy true false) q
    s.decides 0 ∧ (s.account 0).balance ≤ 4 ∧ s.solePending 0 (.ch 1) q ∧ (∀ c, c ≠ 0 → (s.arb c).ch.get 1 = none) ∧
      (s.group (groupOf q.addr)).state = .keep ∧ (s.chan 1).work = some (workOf .pattern true false) ∧
      u.decides 0 ∧ u.solePending 0 (.ch 1) q ∧ (u.chan 1).work = some (workOf .copy true false) ∧
      1 ≤ (workOf .copy true false).unread ∧ (u.chan 1).fifo.length < 16 ∧ runs (u.chan 1) = true ∧
      u.chanReading 1 = false ∧ u.isReady (bankOf (workOf .copy true false).src) = true := by decide +kernel

/-- ChannelWriteCountsDown: a STREAM_IN whose last mark comes early, and the last words with WB 0 and LAST 1. -/
theorem witness_channel_write_short :
    let w := workOf .streamIn true false
    let marked : FifoWord := { data := 5#32, last := true }
    let s := withOp (withCh1 on fun c => { moving w c with fifo := [marked] }) 0 (writeOp1 1)
    let u := withOp (withCh1 on (moving (workOf .pattern false true))) 0 (writeOp1 8)
    s.atRest ∧ s.tablesWf ∧ (s.bank 0).op = some (writeOp1 1) ∧ (s.chan 1).work = some w ∧ s.portQuiet ∧
      marked ∈ (s.chan 1).fifo.take (writeOp1 1).words ∧ (writeOp1 1).words < (s.chan 1).remaining ∧ w.wb = true ∧
      s.isReady (bankOf (descWord (s.chan 1).desc)) = true ∧ u.atRest ∧ u.tablesWf ∧ (u.bank 0).op = some (writeOp1 8) ∧
      (u.chan 1).work = some (workOf .pattern false true) ∧ u.portQuiet ∧ (writeOp1 8).words = (u.chan 1).remaining ∧
      (workOf .pattern false true).wb = false ∧ (workOf .pattern false true).last = true := by decide +kernel

/-- WritebackEndsDescriptor, after an abort. -/
theorem witness_writeback_aborted :
    let s := writingBack .aborted false
    s.atRest ∧ s.tablesWf ∧ (s.bank 0).op = some wbOp ∧ wbOp.kind = .writeback 1 ∧ wbOp.residual = false ∧
      wbOp.payload = [encodeWord 0x0A100008#32] ∧ (s.chan 1).work = some (workOf .copy true false) ∧ (s.chan 1).ended = some .aborted := by decide +kernel

/-- WritebackEndsDescriptor, LAST 1. -/
theorem witness_writeback_last :
    let s := writingBack .complete true
    s.atRest ∧ s.tablesWf ∧ (s.bank 0).op = some wbOp ∧ wbOp.kind = .writeback 1 ∧ wbOp.residual = false ∧
      wbOp.payload = [encodeWord 0x0A100008#32] ∧ (s.chan 1).work = some (workOf .copy true true) ∧ (s.chan 1).ended = some .complete ∧ (s.chan 1).aborting = false ∧
      (workOf .copy true true).last = true := by decide +kernel

/-- WritebackEndsDescriptor, LAST 0. -/
theorem witness_writeback_next :
    let s := writingBack .short false
    s.atRest ∧ s.tablesWf ∧ (s.bank 0).op = some wbOp ∧ wbOp.kind = .writeback 1 ∧ wbOp.residual = false ∧
      wbOp.payload = [encodeWord 0x0A100008#32] ∧ (s.chan 1).work = some (workOf .copy true false) ∧ (s.chan 1).ended = some .short ∧ (s.chan 1).aborting = false ∧
      (workOf .copy true false).last = false ∧ (s.chan 1).residual = false ∧
      s.isReady (bankOf (descWord ((workOf .copy true false).word3.extractLsb' 4 20))) = true := by decide +kernel

/-- WritebackEndsDescriptor, the grant, and an abort taken after the end. -/
theorem witness_writeback_grant :
    let q : Request := { kind := .writeback 1, addr := 0#22, words := 1 }
    let s := withCh1 (asking 0 (.ch 1) q) fun c => { moving (workOf .copy true false) c with ended := some .short, remaining := 3 }
    let u := withCh1 (writingBack .complete false) fun c => { c with aborting := true }
    s.decides 0 ∧ (s.account 0).balance ≤ 4 ∧ s.solePending 0 (.ch 1) q ∧ (s.group (groupOf q.addr)).state = .keep ∧
      (s.chan 1).work = some (workOf .copy true false) ∧ (s.chan 1).ended = some .short ∧
      u.atRest ∧ u.tablesWf ∧ (u.bank 0).op = some wbOp ∧ (u.chan 1).ended = some .complete ∧ (u.chan 1).aborting = true := by
  decide +kernel

/-- ChannelOwnStepsSettle, a pause. -/
theorem witness_pause :
    let s := withCh1 on fun c => { moving (workOf .copy true false) c with pauses := ⟨true, false, false⟩ }
    s.resetAsserted = false ∧ (s.chan 1).work = some (workOf .copy true false) ∧ (s.chan 1).ended = none ∧ s.dataOutstanding 1 = false ∧ s.beatOf 1 = false ∧
      (s.chan 1).state = .active ∧ (s.chan 1).pauses.any = true ∧ (s.chan 1).aborting = false := by decide +kernel

/-- ChannelOwnStepsSettle, an abort with WB 0 and with WB 1. -/
theorem witness_abort_report :
    let s := withCh1 on fun c => { moving (workOf .copy false false) c with aborting := true }
    let u := withCh1 on fun c => { moving (workOf .copy true false) c with aborting := true }
    s.resetAsserted = false ∧ (s.chan 1).work = some (workOf .copy false false) ∧ (s.chan 1).ended = none ∧ s.dataOutstanding 1 = false ∧ s.beatOf 1 = false ∧
      (s.chan 1).aborting = true ∧ (workOf .copy false false).wb = false ∧
      u.resetAsserted = false ∧ (u.chan 1).work = some (workOf .copy true false) ∧ (u.chan 1).ended = none ∧ u.dataOutstanding 1 = false ∧ u.beatOf 1 = false ∧
      (u.chan 1).aborting = true ∧ (workOf .copy true false).wb = true ∧ u.isReady (bankOf (descWord (u.chan 1).desc)) = true := by decide +kernel

/-- ChannelOwnStepsSettle, residual work over, IDLE and LOADING. -/
theorem witness_residual_clear :
    let s := withCh1 on fun c => { c with residual := true }
    let u := withCh1 on fun c => { c with residual := true, state := .loading }
    s.resetAsserted = false ∧ (s.chan 1).residual = true ∧
      (∀ b, (s.bank b).op.any (fun o => o.kind.channel == some 1 && o.residual) = false) ∧
      s.stream.beat.any (fun x => x.ch == 1 && x.residual) = false ∧ (s.chan 1).state ≠ .loading ∧
      (u.chan 1).residual = true ∧ (u.chan 1).state = .loading ∧ (∀ c, (u.arb c).ch.get 1 = none) ∧
      (∀ b, (u.bank b).op.any (fun o => o.kind == .fetch 1) = false) ∧ u.isReady (bankOf (descWord (u.chan 1).desc)) = true := by decide +kernel

/-! ### Witnesses: the banks and the fill engine -/


/-- RefreshSettlesAndSkips, from +3 and from −3. -/
theorem witness_refresh :
    let o := opOf .refresh 0#22 0 []
    let s := (withClosedOp on 0 .ready o).setAccount 0 { balance := 3, cursor := 0#8 }
    let u := (withClosedOp on 0 .ready o).setAccount 0 { balance := -3, cursor := 255#8 }
    s.atRest ∧ (s.bank 0).op = some o ∧ o.kind = .refresh ∧ s.isReady 0 = true ∧ -3 ≤ (s.account 0).balance ∧
      u.atRest ∧ (u.bank 0).op = some o ∧ u.isReady 0 = true ∧ -3 ≤ (u.account 0).balance := by decide +kernel

/-- RefreshSettlesAndSkips, with a switch-off waiting. -/
theorem witness_refresh_off :
    let o := opOf .refresh 0#22 0 []
    let s := (withClosedOp on 0 .ready o).setAccount 0 { balance := 3, cursor := 0#8 }
    let u := s.setBank 0 { s.bank 0 with offWaiting := true }
    u.atRest ∧ (u.bank 0).op = some o ∧ u.isReady 0 = true ∧ (u.bank 0).offWaiting = true ∧ (s.bank 0).offWaiting = false := by
  decide +kernel

/-- BanksComeUp, a CLOSE. -/
theorem witness_close :
    let s := withClosedOp on 0 .ready (opOf .close 0#22 0 [])
    s.atRest ∧ (s.bank 0).op = some (opOf .close 0#22 0 []) := by decide +kernel

/-- BanksComeUp, a WAKE with group 0 in need of refresh and with groups 0 to 3 in none. -/
theorem witness_wake :
    let s := withClosedOp on 0 .init (opOf .wake 0#22 0 [])
    let u := { s with groups := [(4, groupIn .keep)] }
    s.atRest ∧ (s.bank 0).op = some (opOf .wake 0#22 0 []) ∧ s.needsRefresh (globalGroup 0 0#8) = true ∧
      u.atRest ∧ (u.bank 0).op = some (opOf .wake 0#22 0 []) ∧ ∀ k < 4, u.needsRefresh ((0 : BankNo).val * 256 + k) = false := by decide +kernel

/-- BanksComeUp, an EXIT. -/
theorem witness_exit :
    let s := withClosedOp { on with retention := { state := .waking, unsettled := 1, req := false } } 0 .exiting (opOf .selfRefreshExit 0#22 0 [])
    s.atRest ∧ (s.bank 0).op = some (opOf .selfRefreshExit 0#22 0 []) ∧ s.needsRefresh (s.cursorGroup 0) = true := by decide +kernel

/-- BanksGoToSleep, both operations. -/
theorem witness_sleep :
    let r : Retention := { state := .entering, unsettled := 1, req := true }
    let s := withClosedOp { on with retention := r } 0 .entering (opOf .selfRefreshEntry 0#22 0 [])
    let u := withClosedOp { on with retention := r } 0 .entering (opOf .powerDown 0#22 0 [])
    s.atRest ∧ s.tablesWf ∧ (s.bank 0).op = some (opOf .selfRefreshEntry 0#22 0 []) ∧ u.atRest ∧ u.tablesWf ∧
      (u.bank 0).op = some (opOf .powerDown 0#22 0 []) ∧ bankOf 0x0FFFFF#22 = 0 ∧ bankOf 0x100000#22 ≠ 0 := by decide +kernel

/-- WaitingBankWorkBegins, the wake. -/
theorem witness_wake_start :
    let s := on.setBank 0 { resetBank with state := .init, settle := 8 }
    s.resetAsserted = false ∧ (s.bank 0).state = .init ∧ (s.bank 0).op = none ∧ 8 ≤ (s.bank 0).settle := by decide +kernel

/-- WaitingBankWorkBegins, the switch-off. -/
theorem witness_switch_off :
    let s := rowOpen.setBank 0 { rowOpen.bank 0 with offWaiting := true }
    s.resetAsserted = false ∧ s.isFree 0 = true ∧ (s.bank 0).offWaiting = true ∧ s.noRequests 0 := by decide +kernel

/-- WaitingBankWorkBegins, the retention order. -/
theorem witness_order_start :
    let s := rowOpen.setBank 0 { rowOpen.bank 0 with order := some .selfRefreshEntry }
    s.resetAsserted = false ∧ s.isFree 0 = true ∧ (s.bank 0).offWaiting = false ∧ (s.bank 0).order = some .selfRefreshEntry ∧
      s.noRequests 0 := by decide +kernel

/-- Bank 0 about to leave READY, with the request `q` of `r` pending there. -/
def leaving (r : Requester) (q : Request) (off : Bool) : State :=
  let s := asking 0 r q
  s.setBank 0 { s.bank 0 with openRow := some 0#11, offWaiting := off
                              order := if off then none else some .selfRefreshEntry }

/-- WaitingBankWorkBegins, requests that are turned away: a channel's write-back at the switch-off, a host read at the retention order. -/
theorem witness_turned_away :
    let q : Request := { kind := .writeback 1, addr := 0#22, words := 1 }
    let s := leaving (.ch 1) q true
    let u := leaving .host (readRequest 5#22) false
    s.resetAsserted = false ∧ s.isFree 0 = true ∧ (s.bank 0).offWaiting = true ∧ s.solePending 0 (.ch 1) q ∧
      s.mayBeTurnedAway 0 (.ch 1) q ∧ u.resetAsserted = false ∧ u.isFree 0 = true ∧ (u.bank 0).offWaiting = false ∧
      (u.bank 0).order = some .selfRefreshEntry ∧ u.solePending 0 .host (readRequest 5#22) ∧
      u.mayBeTurnedAway 0 .host (readRequest 5#22) := by
  repeat' apply And.intro
  all_goals first | decide +kernel | exact .inl ⟨rfl, rfl⟩

/-- FillEngineTakesUp. -/
theorem witness_take_up :
    let e : FillEntry := { first := 1, count := 1, next := 1 }
    let s := ({ on with fill := { on.fill with queue := [e] } } : State).setGroup 1 (groupIn .fillPending)
    s.resetAsserted = false ∧ s.tablesWf ∧ s.fill.held = false ∧ s.fill.ending = false ∧ s.fillInFlight = false ∧
      s.fill.queue = [e] ∧ (s.group e.next).state = .fillPending ∧ s.isReady (bankOfGroup e.next) = true := by decide +kernel

/-! ### Witnesses: the bus, the registers and the retention controller -/

/-- QUIESCING with nothing left to wait for. -/
def quiescing : State :=
  { on with retention := { state := .quiescing, unsettled := 0, req := true }, fill := { on.fill with held := true }
            scrub := { on.scrub with state := .held } }

/-- BusWaitsEnd, a read at a READY bank and at one that is OFF. -/
theorem witness_read_drain :
    let s := { on with host := { queue := [entryB], cycle := .readDrain 5#22, busEnd := none } }
    let u := s.setBank 0 resetBank
    s.resetAsserted = false ∧ s.host.cycle = .readDrain 5#22 ∧ (∀ e ∈ s.host.queue, e.addr ≠ 5#22) ∧
      s.isReady (bankOf 5#22) = true ∧ u.host.cycle = .readDrain 5#22 ∧ u.isReady (bankOf 5#22) = false := by decide +kernel

/-- BusWaitsEnd, a held write that passes and one that fails. -/
theorem witness_held_write :
    let s := withArb0 { on with host := { queue := [entryB], cycle := .writeHeld 5#22 15#4 1#32, busEnd := none } } fun a =>
      { a with host := some (headRequest entryB) }
    let u := s.setBank 0 resetBank
    s.resetAsserted = false ∧ s.host.cycle = .writeHeld 5#22 15#4 1#32 ∧ s.host.queue.length < 4 ∧ s.served 5#22 ∧
      s.headPlaced = true ∧ u.host.cycle = .writeHeld 5#22 15#4 1#32 ∧ ¬u.served 5#22 := by decide +kernel

/-- BusWaitsEnd, a QUERY and an unknown code at the barrier. -/
theorem witness_barrier :
    let s := { on with host := { queue := [], cycle := .barrier, busEnd := none }, command := 0x05#32, arg := 1023#32 }
    let u := { s with command := 0x07#32 }
    s.resetAsserted = false ∧ s.host.cycle = .barrier ∧ s.host.queue = [] ∧ commandCode s.command = 0x05#8 ∧
      s.arg.toNat ≤ 1023 ∧ u.host.cycle = .barrier ∧ commandCode u.command ∉ commandCodes := by decide +kernel

/-- BusWaitsEnd, a command behind a host write. -/
theorem witness_barrier_entered :
    let s := withOp (withArb0 { on with host := { queue := [entryB], cycle := .idle, busEnd := none } } fun a =>
      { a with host := some (headRequest entryB) }) 0 (opOf .close 0#22 0 [])
    s.busFree ∧ s.host.queue ≠ [] ∧ commandWordOf (.query 0xABCDEF#24) = some 0xABCDEF05#32 := by decide +kernel

/-- Channel 1 of `s` PAUSED with the reasons `p`, and channel 2 with RETENTION and HOST. -/
def sleeping (s : State) (work : Option Work) (p : Pauses) : State :=
  (withCh1 s fun c => { c with state := .paused, pauses := p, work := work, remaining := 8 }).setChan 2
    { resetChannel with state := .paused, pauses := ⟨true, true, false⟩ }

/-- QuiesceEndsInDeniedOrEntering, INT asserted. -/
theorem witness_quiesce_denied :
    let s := { quiescing with events := { sticky := 1#17, enable := 1#17 } }
    s.resetAsserted = false ∧ s.retention.state = .quiescing ∧ (∀ n, (s.chan n).state ≠ .loading ∧ (s.chan n).state ≠ .active) ∧
      s.fillInFlight = false ∧ s.host.queue = [] ∧ (∀ b, (s.bank b).state ≠ .init) ∧ s.int = true ∧ s.noneRetained ∧ s.fill.queue = [] ∧ s.scrub.credits = 0 ∧
      s.scrubInFlight = false ∧ s.portQuiet := by decide +kernel

/-- QuiesceEndsInDeniedOrEntering, INT asserted and RETENTION held: by channel 1 alone without a descriptor, or with HOST. -/
theorem witness_quiesce_denied_lifted :
    let k := { quiescing with events := { sticky := 1#17, enable := 1#17 } }
    let s := sleeping k none ⟨false, true, false⟩
    let u := sleeping k none ⟨true, true, false⟩
    s.resetAsserted = false ∧ s.retention.state = .quiescing ∧ (∀ n, (s.chan n).state ≠ .loading ∧ (s.chan n).state ≠ .active) ∧
      s.fillInFlight = false ∧ s.host.queue = [] ∧ (∀ b, (s.bank b).state ≠ .init) ∧ s.host.cycle = .idle ∧ s.int = true ∧
      s.mayBeLifted 1 ∧ s.fill.queue = [] ∧ s.scrub.credits = 0 ∧ s.scrubInFlight = false ∧ u.int = true ∧ u.mayBeLifted 1 := by
  repeat' apply And.intro
  all_goals decide +kernel

/-- QuiesceEndsInDeniedOrEntering, INT not asserted, bank 0 alone READY. -/
theorem witness_quiesce_commit :
    let s := { quiescing with banks := ⟨{ resetBank with state := .ready }, resetBank, resetBank, resetBank⟩ }
    s.resetAsserted = false ∧ s.retention.state = .quiescing ∧ (∀ n, (s.chan n).state ≠ .loading ∧ (s.chan n).state ≠ .active) ∧
      s.fillInFlight = false ∧ s.host.queue = [] ∧ (∀ b, (s.bank b).state ≠ .init) ∧ s.int = false ∧ (∀ c, s.noRequests c) ∧
      s.isFree 0 = true ∧ (s.bank 0).offWaiting = false ∧ ∀ c, c ≠ 0 → s.isReady c = false := by decide +kernel

/-- QuiesceEndsInDeniedOrEntering: no read or write of the bus about to go on, one about to, and a host read pending at the commitment. -/
theorem witness_quiesce_bus :
    let s := { quiescing with host := { on.host with cycle := .readDrain 5#22 } }
    let u := { quiescing with
      banks := ⟨{ resetBank with state := .ready }, resetBank, resetBank, resetBank⟩
      arbs := (asking 0 .host (readRequest 5#22)).arbs
      host := { on.host with cycle := .readArray 5#22 } }
    quiescing.host.cycle = .idle ∧ s.retention.state = .quiescing ∧ s.host.cycle = .readDrain 5#22 ∧ s.host.queue = [] ∧
      u.retention.state = .quiescing ∧ u.host.cycle = .readArray 5#22 ∧ u.host.queue = [] ∧ u.int = false ∧
      (∀ c, c ≠ 0 → u.noRequests c) ∧ u.isFree 0 = true ∧ (∀ c, c ≠ 0 → u.isReady c = false) ∧
      u.solePending 0 .host (readRequest 5#22) ∧ u.mayBeTurnedAway 0 .host (readRequest 5#22) := by
  repeat' apply And.intro
  all_goals first | decide +kernel | exact .inl ⟨rfl, rfl⟩

/-- SettledBanksSleepOrWake, RET_REQ high and low, with RETAINED, DORMANT and OFF banks. -/
theorem witness_settled :
    let k : BankState → Bank := fun x => { resetBank with state := x }
    let s := { on with banks := ⟨k .retained, k .dormant, k .off, k .retained⟩, retention := { state := .entering, unsettled := 0, req := true } }
    let u := { s with retention := { s.retention with req := false } }
    s.resetAsserted = false ∧ s.retention.state = .entering ∧ s.retention.unsettled = 0 ∧ s.retention.req = true ∧
      u.retention.req = false ∧ (u.bank 0).state = .retained ∧ (u.bank 1).state = .dormant ∧ (u.bank 2).state = .off := by decide +kernel

/-- WakingEndsInService, RET_REQ low and high. -/
theorem witness_waking :
    let s := { quiescing with retention := { state := .waking, unsettled := 0, req := false } }
    s.resetAsserted = false ∧ s.retention.state = .waking ∧ s.retention.unsettled = 0 ∧ s.noneRetained ∧ s.fill.queue = [] ∧ s.scrub.credits = 0 ∧
      s.scrubInFlight = false ∧ s.portQuiet ∧ s.retention.req = false ∧
      ∀ n, (s.chan n).state = .idle ∨ (s.chan n).state = .halted := by decide +kernel

/-- WakingEndsInService, RETENTION held by channel 1 with a PATTERN and with a STREAM_IN. -/
theorem witness_waking_lifted :
    let w := { quiescing with retention := { state := .waking, unsettled := 0, req := false } }
    let s := sleeping w (some (workOf .pattern true false)) ⟨false, true, false⟩
    let u := sleeping w (some (workOf .streamIn true false)) ⟨false, true, false⟩
    s.resetAsserted = false ∧ s.retention.state = .waking ∧ s.retention.unsettled = 0 ∧ s.scrub.credits = 0 ∧
      s.scrubInFlight = false ∧ s.portQuiet ∧ s.retention.req = false ∧ s.fill.queue = [] ∧ s.mayBeLifted 1 ∧
      u.mayBeLifted 1 := by
  repeat' apply And.intro
  all_goals decide +kernel

/-- WakingEndsInService, a group being filled with RET_REQ low, and one waiting with RET_REQ high. -/
theorem witness_waking_fill :
    let q : List FillEntry := [{ first := 1, count := 2, next := 1 }]
    let w := { quiescing with retention := { state := .waking, unsettled := 0, req := false }
                              fill := { on.fill with queue := q, segment := 7, held := true } }
    let s := w.setGroup 1 (groupIn .filling)
    let u := { w with retention := { w.retention with req := true } }.setGroup 1 (groupIn .fillPending)
    s.retention.req = false ∧ s.fill.queue = q ∧ s.fill.held = true ∧ s.fillInFlight = false ∧ (s.group 1).state = .filling ∧
      s.isReady (bankOfGroup 1) = true ∧ s.noneRetained ∧ s.scrubInFlight = false ∧ s.portQuiet ∧ u.retention.req = true ∧
      u.tablesWf ∧ u.fill.queue = q ∧ u.fill.held = true ∧ u.fill.ending = false ∧ u.fillInFlight = false ∧
      (u.group 1).state = .fillPending ∧ u.isReady (bankOfGroup 1) = true ∧ u.portQuiet := by decide +kernel

/-- RetReqMovesTheController, RET_REQ rising in NORMAL and elsewhere. -/
theorem witness_ret_req_rise :
    let s := withCh1 on fun c => { c with state := .loading, residual := true }
    let t := withOp s 0 { fetchOp with residual := true }
    let u := { on with retention := { state := .denied, unsettled := 0, req := false } }
    t.atRest ∧ t.retention.req = false ∧ t.retention.state = .normal ∧ (∀ n, (t.chan n).state = .active → t.oneRequest n) ∧
      (t.chan 1).state = .loading ∧ u.atRest ∧ u.retention.req = false ∧ u.retention.state ≠ .normal := by decide +kernel

/-- RetReqMovesTheController, RET_REQ rising while channels are ACTIVE: channel 1 with its data request waiting behind a CLOSE, channel 2 with
nothing outstanding, channel 3 pausing with a data write in flight. -/
theorem witness_ret_req_rise_active :
    let q : Request := { kind := .dataRead 1, addr := 0x400#22, words := 4 }
    let x := (withOp (dataAsks (workOf .copy true false) q) 0 (opOf .close 0#22 0 [])).setBank 1
      { (on.bank 1) with op := some (opOf (.dataWrite 3) 0x100000#22 1 [encodeWord 5#32]), openRow := some 0#11 }
    let s := (x.setChan 2 (moving (workOf .copy true false) resetChannel)).setChan 3
      { moving (workOf .copy true false) resetChannel with pauses := ⟨true, false, false⟩ }
    s.atRest ∧ s.retention.req = false ∧ s.retention.state = .normal ∧
      (∀ n, (s.chan n).state = .active → s.oneRequest n) ∧ s.pausesAtOnce 1 ∧ s.requestLeft 1 0 = none ∧
      (s.arb 0).ch.get 1 = some q ∧ s.pausesAtOnce 2 ∧ ¬s.takesFirstReason 3 := by decide +kernel

/-- RetReqMovesTheController, RET_REQ falling in QUIESCING, DENIED and ENTERING. -/
theorem witness_ret_req_fall :
    let s := { quiescing with host := { queue := [entryB], cycle := .idle, busEnd := none }
                              arbs := (withArb0 on fun a => { a with host := some (headRequest entryB) }).arbs
                              banks := (withOp on 0 (opOf .close 0#22 0 [])).banks }
    let u := { on with retention := { state := .denied, unsettled := 0, req := true } }
    let v := { on with retention := { state := .entering, unsettled := 1, req := true } }
    s.atRest ∧ s.retention.req = true ∧ s.retention.state = .quiescing ∧ s.noneRetained ∧ s.fill.queue = [] ∧ s.scrub.credits = 0 ∧
      s.scrubInFlight = false ∧ s.portQuiet ∧ u.atRest ∧ u.retention.req = true ∧
      u.retention.state = .denied ∧ v.atRest ∧ v.retention.req = true ∧ v.retention.state = .entering := by decide +kernel

/-- RetReqMovesTheController, RET_REQ falling in QUIESCING with RETENTION held by channel 1. -/
theorem witness_ret_req_fall_lifted :
    let k := { quiescing with host := { queue := [entryB], cycle := .idle, busEnd := none }
                              arbs := (withArb0 on fun a => { a with host := some (headRequest entryB) }).arbs
                              banks := (withOp on 0 (opOf .close 0#22 0 [])).banks }
    let s := sleeping k (some (workOf .copy true false)) ⟨false, true, false⟩
    s.atRest ∧ s.retention.req = true ∧ s.retention.state = .quiescing ∧ s.mayBeLifted 1 ∧ s.fill.queue = [] ∧
      s.scrub.credits = 0 ∧ s.scrubInFlight = false := by decide +kernel

/-- RetReqMovesTheController, RET_REQ falling in RETAINED. -/
theorem witness_ret_req_fall_retained :
    let k : BankState → Bank := fun x => { resetBank with state := x }
    let s := { on with banks := ⟨k .retained, k .dormant, k .off, k .retained⟩, retention := { state := .retained, unsettled := 0, req := true } }
    s.atRest ∧ s.retention.req = true ∧ s.retention.state = .retained := by decide +kernel

/-- MemoryReadMeetsTheQueue, without a matching entry, with a full one, with a partial one, and at an unserved word. -/
theorem witness_memory_read :
    let s := withArb0 { on with host := { queue := [entryA, entryB], cycle := .idle, busEnd := none } } fun a =>
      { a with host := some (headRequest entryA) }
    let t := withOp s 0 (opOf .close 0#22 0 [])
    t.busFree ∧ t.served 7#22 ∧ (∀ e ∈ t.host.queue, e.addr ≠ 7#22) ∧ t.served 5#22 ∧
      t.host.queue = [] ++ entryA :: [entryB] ∧ entryA.addr = 5#22 ∧ (∀ f ∈ [entryB], f.addr ≠ 5#22) ∧ entryA.lanes = 15#4 ∧
      t.served 6#22 ∧ t.host.queue = [entryA] ++ entryB :: [] ∧ entryB.addr = 6#22 ∧ entryB.lanes ≠ 15#4 ∧
      (on.setBank 0 resetBank).busFree ∧ ¬(on.setBank 0 resetBank).served 5#22 := by decide +kernel

/-- MemoryWriteIsPosted, with no lane, at a full queue, at an unserved word, and accepted. -/
theorem witness_memory_write :
    let q := [entryA, entryB, entryA, entryB]
    let f := withOp (withArb0 { on with host := { queue := q, cycle := .idle, busEnd := none } } fun a =>
      { a with host := some (headRequest entryA) }) 0 (opOf .close 0#22 0 [])
    on.busFree ∧ (0#4 : BitVec 4) = 0#4 ∧ f.busFree ∧ f.host.queue.length = 4 ∧ (on.setBank 0 resetBank).busFree ∧
      ¬(on.setBank 0 resetBank).served 5#22 ∧ (on.setBank 0 resetBank).host.queue.length < 4 ∧
      (1#4 : BitVec 4) ≠ 0#4 ∧ on.served 5#22 ∧ on.host.queue = [] ∧ on.headPlaced = false ∧ (on.arb (bankOf 5#22)).host = none := by decide +kernel

/-- IdIsConstant, RegisterWriteStoresArg, TickdivChangeRestartsTheTimer, FittedChangesOnlyWhenOff and EventFlagsAndInt. -/
theorem witness_register_write :
    on.busFree ∧ on.commandReady ∧ (Instr.registerWrite 4#6 1#32).wellFormed = true ∧
      (Instr.registerWrite 0x3F#6 1#32).wellFormed = true ∧ (0x00000019#32).extractLsb' 0 8 ≠ on.config.tickdiv ∧
      (0x00000018#32).extractLsb' 0 8 = on.config.tickdiv ∧ on.events.sticky.getLsbD 8 = false := by decide +kernel

/-- CheckOverrideLatch. -/
theorem witness_override :
    let s := { on with override := { armed := true, check := 55#7 } }
    s.busFree ∧ s.served 0x3FFFFF#22 ∧ s.host.queue = [] ∧ s.override.armed = true ∧ s.commandReady ∧ s.inService = true := by decide +kernel

/-- FencesChangeOnlyAtRest, an IDLE channel and an ACTIVE one. -/
theorem witness_fence_write :
    let s := withOp (withCh1 on fun c => { c with state := .active }) 0 (opOf .close 0#22 0 [])
    on.busFree ∧ (on.chan 1).state = .idle ∧ (on.chan 1).residual = false ∧ s.busFree ∧ (s.chan 1).state = .active := by decide +kernel

/-! ### Witnesses: commands -/

/-- Only LAPSED and DISCARD groups; bank 3 READY, free or with a CLOSE in flight. -/
def spent : State :=
  { on with arg := 3#32, groups := [(768, groupIn .lapsed), (1023, groupIn .lapsed)] }

/-- BankOnAndOff, BANK_ON of an OFF bank, an unfitted one and a READY one. -/
theorem witness_bank_on :
    let s := { on with arg := 3#32, banks := on.banks.set 3 resetBank }
    let u := { s with fitted := on.fitted.set 3 false }
    s.commandReady ∧ s.arg = BitVec.ofNat 32 (3 : BankNo).val ∧ s.fitted.get 3 = true ∧ s.inService = true ∧ (s.bank 3).state = .off ∧
      u.commandReady ∧ u.fitted.get 3 = false ∧ ({ on with arg := 3#32 } : State).commandReady ∧ (on.bank 3).state ≠ .off := by decide +kernel

/-- BankOnAndOff, BANK_OFF of a free bank. -/
theorem witness_bank_off :
    let s := spent
    s.commandReady ∧ s.arg = BitVec.ofNat 32 (3 : BankNo).val ∧ s.tablesWf ∧ s.inService = true ∧
      (∀ k < 256, (s.group ((3 : BankNo).val * 256 + k)).state = .discard ∨ (s.group ((3 : BankNo).val * 256 + k)).state = .lapsed) ∧
      s.isFree 3 = true ∧ (s.bank 3).offWaiting = false ∧ s.noRequests 3 := by decide +kernel

/-- BankOnAndOff, BANK_OFF of an operating bank. -/
theorem witness_bank_off_operating :
    let s := withClosedOp spent 3 .ready (opOf .close 0#22 0 [])
    s.commandReady ∧ s.arg = BitVec.ofNat 32 (3 : BankNo).val ∧ s.tablesWf ∧ s.inService = true ∧
      (∀ k < 256, (s.group ((3 : BankNo).val * 256 + k)).state = .discard ∨ (s.group ((3 : BankNo).val * 256 + k)).state = .lapsed) ∧
      s.isReady 3 = true ∧ (s.bank 3).op = some (opOf .close 0#22 0 []) ∧ (s.bank 3).offWaiting = false ∧ (s.account 3).balance = -4 := by decide +kernel

/-- BankOnAndOff: ARG 4, BANK_OFF of a bank in INIT, of an operating one above −4 and with a REFRESH in flight, and its refusals with STATE. -/
theorem witness_bank_off_other :
    let s := spent.setBank 3 { resetBank with state := .init, settle := 3 }
    let u := (withClosedOp spent 3 .ready (opOf .close 0#22 0 [])).setAccount 3 { balance := 8, cursor := 250#8 }
    let r := (withClosedOp spent 3 .ready (opOf .refresh 0#22 0 [])).setAccount 3 { balance := 1, cursor := 0#8 }
    let v := u.setBank 3 { u.bank 3 with offWaiting := true }
    ({ on with arg := 4#32 } : State).commandReady ∧ 3 < (4#32 : Word).toNat ∧ s.commandReady ∧ s.tablesWf ∧
      (s.bank 3).state = .init ∧ (s.bank 3).offWaiting = false ∧ s.noRequests 3 ∧ u.commandReady ∧ u.tablesWf ∧ u.isReady 3 = true ∧
      (u.bank 3).op = some (opOf .close 0#22 0 []) ∧ -4 ≤ (u.account 3).balance ∧ (u.account 3).balance ≤ 8 ∧ r.commandReady ∧
      (r.bank 3).op = some (opOf .refresh 0#22 0 []) ∧ v.commandReady ∧ (v.bank 3).state = .ready ∧ (v.bank 3).offWaiting = true ∧
      ({ on with arg := 3#32 } : State).commandReady ∧ (on.group ((3 : BankNo).val * 256 + 0)).state ≠ .discard ∧
      (on.group ((3 : BankNo).val * 256 + 0)).state ≠ .lapsed := by decide +kernel

/-- FillAndRelease, FILL of the last two groups. -/
theorem witness_fill :
    let s := { spent with arg := 0x000203FE#32 }
    s.commandReady ∧ s.tablesWf ∧ s.inService = true ∧ s.arg = (BitVec.ofNat 16 2 ++ BitVec.ofNat 16 1022 : BitVec 32) ∧ 1022 + 2 ≤ 1024 ∧
      (∀ g < 1024, 1022 ≤ g → (s.group g).state = .discard ∨ (s.group g).state = .lapsed) ∧
      (∀ g < 1024, 1022 ≤ g → s.inUse (bankOfGroup g) = true) ∧ s.fill.queue.length < 8 := by decide +kernel

/-- FillAndRelease, RELEASE of every group. -/
theorem witness_release :
    let s := { on with arg := 0x04000000#32 }
    s.commandReady ∧ s.tablesWf ∧ s.inService = true ∧ s.arg = (BitVec.ofNat 16 1024 ++ BitVec.ofNat 16 0 : BitVec 32) ∧ 0 + 1024 ≤ 1024 ∧
      (∀ g < 1024, (s.group g).state ≠ .fillPending ∧ (s.group g).state ≠ .filling) ∧
      s.isReady 0 = true ∧ s.refreshing 0 = false ∧ -4 ≤ (s.account 0).balance := by decide +kernel

/-- QueryAndLogPop, ARG 1023 and 1024, an empty log and one with a record. -/
theorem witness_query_log_pop :
    let r : Record := { finding := groupFinding .lapse .refresh 5, seq := 0#8, repeats := 0 }
    let s := { on with arg := 1023#32, log := { on.log with records := [r] } }
    let u := { on with arg := 1024#32 }
    s.commandReady ∧ s.arg.toNat ≤ 1023 ∧ s.log.records = [r] ∧ u.commandReady ∧ 1023 < u.arg.toNat ∧ u.log.records = [] := by decide +kernel

/-- ChannelsStartPauseAndResume, CH_START with and without RESIDUAL. -/
theorem witness_ch_start :
    let s := { on with arg := 0x00000040#32 }
    let u := withOp (withCh1 s fun c => { c with state := .halted, residual := true }) 0 { readOp1 with residual := true }
    s.commandReady ∧ s.inService = true ∧ s.arg = (0#8 ++ (4#20 : DescAddr) ++ 0#4 : BitVec 32) ∧ (s.chan 1).state = .idle ∧
      (s.chan 1).aborting = false ∧ s.isReady (bankOf (descWord 4#20)) = true ∧ (s.chan 1).residual = false ∧ u.commandReady ∧
      (u.chan 1).state = .halted ∧ (u.chan 1).aborting = false ∧ (u.chan 1).residual = true := by decide +kernel

/-- ChannelsStartPauseAndResume, CH_START at a bank that is OFF. -/
theorem witness_ch_start_off :
    let s := { on with arg := 0x00000040#32, banks := on.banks.set 0 resetBank }
    s.commandReady ∧ s.inService = true ∧ s.arg = (0#8 ++ (4#20 : DescAddr) ++ 0#4 : BitVec 32) ∧ (s.chan 1).state = .idle ∧
      (s.chan 1).aborting = false ∧ (s.chan 1).residual = false ∧ (∀ c, (s.arb c).ch.get 1 = none) ∧
      s.chanOp 1 (fun _ => true) = false ∧ s.beatOf 1 = false ∧ s.isReady (bankOf (descWord 4#20)) = false ∧
      s.log.records.length < 8 := by decide +kernel

/-- ChannelsStartPauseAndResume, CH_PAUSE of a PAUSED, an ACTIVE and an IDLE channel. -/
theorem witness_ch_pause :
    let s := withCh1 on fun c => { c with state := .paused, pauses := ⟨false, false, true⟩ }
    let u := withCh1 on fun c => { moving (workOf .streamIn true false) c with fifo := [] }
    s.commandReady ∧ (s.chan 1).state = .paused ∧ (s.chan 1).aborting = false ∧ u.commandReady ∧ (u.chan 1).state = .active ∧
      (u.chan 1).aborting = false ∧ (u.chan 1).pauses = noPauses ∧ (u.chan 1).work ≠ none ∧ (u.chan 1).ended = none ∧
      u.dataOutstanding 1 = false ∧ u.beatOf 1 = false ∧ on.commandReady ∧ (on.chan 1).state = .idle := by decide +kernel

/-- ChannelsStartPauseAndResume, CH_PAUSE of an ACTIVE channel: pausing already, with a data read in flight, and with a data request waiting
behind a CLOSE. -/
theorem witness_ch_pause_active :
    let s := withOp (withCh1 on fun c => { moving (workOf .copy true false) c with pauses := ⟨false, true, false⟩ }) 0 readOp1
    let u := withOp (withCh1 on (moving (workOf .copy true false))) 0 readOp1
    let q : Request := { kind := .dataWrite 1, addr := 0x800#22, words := 4 }
    let v := withOp (dataAsks (workOf .pattern true false) q) 0 (opOf .close 0#22 0 [])
    s.commandReady ∧ (s.chan 1).aborting = false ∧ (s.chan 1).state = .active ∧ (s.chan 1).pauses.any = true ∧
      u.commandReady ∧ u.takesFirstReason 1 ∧ u.oneRequest 1 ∧ ¬u.pausesAtOnce 1 ∧
      v.commandReady ∧ v.takesFirstReason 1 ∧ v.oneRequest 1 ∧ v.pausesAtOnce 1 ∧ v.requestLeft 1 0 = none := by decide +kernel

/-- ChannelsStartPauseAndResume, CH_RESUME of a channel with a descriptor: a STREAM_OUT that reads on, and a STREAM_IN that waits for beats. -/
theorem witness_ch_resume_active :
    let p (c : Channel) : Channel := { c with state := .paused, pauses := ⟨true, false, false⟩ }
    let s := withCh1 on fun c => p (moving (workOf .streamOut true false) c)
    let u := withCh1 on fun c => p (moving (workOf .streamIn true false) c)
    s.commandReady ∧ s.inService = true ∧ (s.chan 1).aborting = false ∧ (s.chan 1).state = .paused ∧ s.portQuiet ∧
      (s.chan 1).pauses.retention = false ∧ (s.chan 1).pauses.any = true ∧ s.mayGoOn 1 ∧
      (requestAtRest 1 (s.chan 1) (workOf .streamOut true false)).isSome = true ∧ u.commandReady ∧ u.mayGoOn 1 ∧
      requestAtRest 1 (u.chan 1) (workOf .streamIn true false) = none := by decide +kernel

/-- ChannelsStartPauseAndResume, CH_RESUME with RETENTION held and without. -/
theorem witness_ch_resume :
    let s := { withCh1 on fun c => { c with state := .paused, pauses := ⟨true, true, true⟩ } with
      retention := { state := .denied, unsettled := 0, req := true } }
    let u := withCh1 on fun c => { c with state := .paused, pauses := ⟨true, false, true⟩ }
    s.commandReady ∧ s.inService = true ∧ (s.chan 1).aborting = false ∧ (s.chan 1).state = .paused ∧ s.portQuiet ∧
      (s.chan 1).pauses.retention = true ∧ u.commandReady ∧ u.portQuiet ∧ (u.chan 1).pauses.retention = false ∧
      (u.chan 1).pauses.any = true ∧ (u.chan 1).work = none ∧ (u.chan 1).residual = false ∧
      u.isReady (bankOf (descWord (u.chan 1).desc)) = true := by decide +kernel

/-- ChannelsAbortAndReset, CH_ABORT of a PAUSED channel and of an ACTIVE one. -/
theorem witness_ch_abort :
    let s := withCh1 on fun c => { c with state := .paused, pauses := ⟨true, false, false⟩ }
    let u := withOp (withCh1 on (moving (workOf .copy true false))) 0 readOp1
    s.commandReady ∧ (s.chan 1).state = .paused ∧ (s.chan 1).aborting = false ∧ (s.chan 1).work = none ∧
      (∀ c, (s.arb c).ch.get 1 = none) ∧ u.commandReady ∧ (u.chan 1).state = .active ∧ (u.chan 1).aborting = false ∧
      (u.chan 1).work ≠ none ∧ (∀ c, (u.arb c).ch.get 1 = none) ∧ (u.bank 0).op = some readOp1 ∧ readOp1.kind = .dataRead 1 := by decide +kernel

/-- SoftResetKeepsTheArray, with a group being filled and one waiting. -/
theorem witness_soft_reset :
    let s := { on with
      banks := on.banks.set 0 { on.bank 0 with op := some (opOf .close 0#22 0 []) }
      groups := [(1, groupIn .filling), (2, groupIn .fillPending), (3, groupIn .lapsed)]
      fill := { on.fill with queue := [{ first := 1, count := 2, next := 1 }], segment := 3 } }
    s.commandReady ∧ s.tablesWf ∧ s.inService = true ∧ s.fillInFlight = false ∧ s.fillingGroup = some 1 ∧
      (s.group 2).state = .fillPending ∧ (s.group 3).state = .lapsed := by decide +kernel

/-- SoftResetKeepsTheArray, with a fill segment in flight and a run of groups behind it. -/
theorem witness_soft_reset_filling :
    let s := { (filling63.setGroup 2 (groupIn .fillPending)) with
      fill := { filling63.fill with queue := [{ first := 1, count := 2, next := 1 }] } }
    s.commandReady ∧ s.tablesWf ∧ s.inService = true ∧ s.fillInFlight = true ∧ s.fillingGroup = some 1 ∧
      s.fill.queue = [{ first := 1, count := 2, next := 1 }] ∧ (s.group 2).state = .fillPending := by decide +kernel

/-- RefusalsChangeNothing, an unknown code, and each refused command's hypotheses. -/
theorem witness_refused :
    let s := withOp { on with retention := { state := .quiescing, unsettled := 0, req := true }, arg := 3#32 } 0
      (opOf .fillSegment 0#22 64 [])
    let u := { s with arg := 0x00010000#32 }
    let v := { s with arg := 0x00FFFFF0#32 }
    on.commandReady ∧ commandCode 0x00000007#32 ∉ commandCodes ∧ s.commandReady ∧ s.inService = false ∧
      commandWordOf (.bankOn 0#24) = some 0x00000001#32 ∧ s.fitted.get 3 = true ∧ s.arg = BitVec.ofNat 32 (3 : BankNo).val ∧
      u.commandReady ∧ u.inService = false ∧ u.arg = (BitVec.ofNat 16 1 ++ BitVec.ofNat 16 0 : BitVec 32) ∧ v.commandReady ∧
      v.arg = (0#8 ++ (0xFFFFF#20 : DescAddr) ++ 0#4 : BitVec 32) := by decide +kernel

/-! ### Witnesses: the stream port -/

/-- A beat of channel 1. -/
def beat1 (out : Option Word) (residual : Bool) : Beat :=
  { ch := 1, out := out, residual := residual }

/-- Channel 1 in a beat of a stream operation, SRQ1 high, a bank operation of another in flight. -/
def streaming (x : Beat) (f : Channel → Channel) : State :=
  ({ withCh1 on f with stream := { beat := some x, rot := 1, beatCh := 1, srq := ⟨false, true, false, false⟩ } } : State)

/-- SrqLevelsAndBeats: under RESET, beside a beat, with a channel that waits for its peripheral, and falling. -/
theorem witness_srq :
    let w := workOf .streamIn true false
    let s := withCh1 on (moving w)
    let u := streaming (beat1 none false) (moving w)
    State.reset.pinReset.resetAsserted = true ∧ u.atRest ∧ u.stream.beat ≠ none ∧ s.atRest ∧ s.stream.beat = none ∧
      (∀ m, s.eligible m = false) ∧ runs (s.chan 1) = true ∧ (s.chan 1).work = some w ∧ w.op = .streamIn ∧
      (s.chan 1).fifo.length < 16 ∧ (s.chan 1).fifo.length < (s.chan 1).remaining ∧ (∀ x ∈ (s.chan 1).fifo, x.last = false) ∧
      s.beatOf 1 = false := by decide +kernel

/-- StreamTakeMovesOneWord, a residual beat. -/
theorem witness_take_residual :
    let x := beat1 none true
    let s := streaming x fun c => { c with residual := true }
    s.atRest ∧ s.stream.beat = some x ∧ x.ch = 1 ∧ (∀ m, s.eligible m = false) ∧ x.residual = true := by decide +kernel

/-- StreamTakeMovesOneWord, an IN beat. -/
theorem witness_take_in :
    let x := beat1 none false
    let s := streaming x (moving (workOf .streamIn true false))
    s.atRest ∧ s.stream.beat = some x ∧ x.ch = 1 ∧ (∀ m, s.eligible m = false) ∧ x.residual = false ∧ x.out = none ∧ s.allReady := by decide +kernel

/-- StreamTakeMovesOneWord, an OUT beat, and an OUT beat with SLAST. -/
theorem witness_take_out :
    let x := beat1 (some 5#32) false
    let s := streaming x (moving (workOf .streamOut true false))
    s.atRest ∧ s.stream.beat = some x ∧ x.ch = 1 ∧ (∀ m, s.eligible m = false) ∧ x.residual = false ∧ x.out = some 5#32 ∧
      (s.chan 1).work = some (workOf .streamOut true false) ∧ (s.chan 1).aborting = false ∧ 2 ≤ (s.chan 1).remaining ∧ s.allReady ∧
      (workOf .streamOut true false).wb = true ∧ (∀ c, (s.arb c).ch.get 1 = none) ∧
      (∀ b, (s.bank b).op.any (fun o => o.kind.channel == some 1) = false) ∧ s.isReady (bankOf (descWord (s.chan 1).desc)) = true := by decide +kernel

end Sys2Proof.Tests
end

section
-- One thread at a time: the stack of each thread counts against the memory limit of the check.
set_option Elab.async false
/-! SUPPORT. Proofs/Frames.lean: how `unchangedBut` composes, and the parts that each plain update touches. -/

namespace Sys2Proof.Machine

/-! ### The algebra of `unchangedBut` -/

theorem Part.same_trans {p : Part} {s t u : State} (h : p.same s t) (h' : p.same t u) : p.same s u := by
  cases p <;> exact Eq.trans h' h

theorem unchangedBut.refl (ps : List Part) (s : State) : unchangedBut ps s s := by
  intro p _
  cases p <;> rfl

theorem unchangedBut.mono {ps qs : List Part} {s t : State} (h : unchangedBut ps s t) (hs : ps ⊆ qs) :
    unchangedBut qs s t :=
  fun p hp => h p fun hm => hp (hs hm)

theorem unchangedBut.trans {ps : List Part} {s t u : State} (h : unchangedBut ps s t) (h' : unchangedBut ps t u) :
    unchangedBut ps s u :=
  fun p hp => Part.same_trans (h p hp) (h' p hp)

/-- One more update, which touches parts already named. -/
theorem unchangedBut.andThen {ps qs : List Part} {s t u : State} (h : unchangedBut ps s t) (h' : unchangedBut qs t u)
    (hs : qs ⊆ ps) : unchangedBut ps s u :=
  h.trans (h'.mono hs)

/-- Where the Row Group Table stays, every group does. -/
theorem group_of_frame {ps : List Part} {s t : State} (h : unchangedBut ps s t) (hp : .groups ∉ ps) (g : Nat) :
    t.group g = s.group g := by
  rw [State.group, h .groups hp, State.group]

@[simp] theorem mem_allArbs (b : BankNo) : Part.arb b ∈ allArbs := List.mem_map.2 ⟨b, Four.mem_indices b, rfl⟩
@[simp] theorem mem_allBanks (b : BankNo) : Part.bank b ∈ allBanks := List.mem_map.2 ⟨b, Four.mem_indices b, rfl⟩
@[simp] theorem mem_allAccounts (b : BankNo) : Part.account b ∈ allAccounts := List.mem_map.2 ⟨b, Four.mem_indices b, rfl⟩
@[simp] theorem mem_allChans (n : ChanNo) : Part.chan n ∈ allChans := List.mem_map.2 ⟨n, Four.mem_indices n, rfl⟩

/-! ### The parts each plain update touches -/

theorem State.setBank_frame (s : State) (b : BankNo) (k : Bank) : unchangedBut [.bank b] s (s.setBank b k) := by
  intro p hp
  cases p with
  | bank c => exact Four.get_set_ne _ _ (by simpa using hp)
  | _ => rfl

theorem State.setArb_frame (s : State) (b : BankNo) (a : Arbiter) : unchangedBut [.arb b] s (s.setArb b a) := by
  intro p hp
  cases p with
  | arb c => exact Four.get_set_ne _ _ (by simpa using hp)
  | _ => rfl

theorem State.setAccount_frame (s : State) (b : BankNo) (r : RefreshAccount) :
    unchangedBut [.account b] s (s.setAccount b r) := by
  intro p hp
  cases p with
  | account c => exact Four.get_set_ne _ _ (by simpa using hp)
  | _ => rfl

theorem State.setChan_frame (s : State) (n : ChanNo) (c : Channel) : unchangedBut [.chan n] s (s.setChan n c) := by
  intro p hp
  cases p with
  | chan m => exact Four.get_set_ne _ _ (by simpa using hp)
  | _ => rfl

theorem State.setGroup_frame (s : State) (g : Nat) (x : Group) : unchangedBut [.groups] s (s.setGroup g x) := by
  intro p hp
  cases p with
  | groups => simp at hp
  | _ => rfl

theorem State.setGroupState_frame (s : State) (g : Nat) (st : GroupState) : unchangedBut [.groups] s (s.setGroupState g st) :=
  s.setGroup_frame g _

/-- Updates of one form carried out one after the other touch what each touches. -/
theorem unchangedBut.foldl {α : Type} {ps : List Part} {f : State → α → State} (hf : ∀ u x, unchangedBut ps u (f u x))
    (l : List α) : ∀ s, unchangedBut ps s (l.foldl f s) := by
  induction l with
  | nil => exact fun s => .refl ps s
  | cons x rest ih => exact fun s => (hf s x).trans (ih _)

theorem State.markGroups_frame (s : State) (gs : List Nat) (st : GroupState) : unchangedBut [.groups] s (s.markGroups gs st) :=
  .foldl (fun u g => u.setGroupState_frame g st) gs s

theorem State.discardGroups_frame (s : State) (gs : List Nat) (from_ : List GroupState) :
    unchangedBut [.groups] s (s.discardGroups gs from_) :=
  .foldl (fun u g => by
    split
    · exact u.setGroup_frame g _
    · exact .refl _ _) gs s

theorem State.setWords_frame (s : State) (w : WordAddr) (xs : List Stored) : unchangedBut [.array] s (s.setWords w xs) := by
  intro p hp
  rw [s.setWords_eq w xs]
  cases p with
  | array => exact absurd (List.mem_singleton.2 rfl) hp
  | _ => rfl

theorem State.raise_frame (s : State) (e : Event) : unchangedBut [.events] s (s.raise e) := by
  intro p hp
  cases p with
  | events => simp at hp
  | _ => rfl

theorem State.endCycle_frame (s : State) (e : BusEnd) : unchangedBut [.host] s (s.endCycle e) := by
  intro p hp
  cases p with
  | host => simp at hp
  | _ => rfl

theorem State.withHost_frame (s : State) (x : HostPort) : unchangedBut [.host] s { s with host := x } := by
  intro p hp
  cases p with
  | host => simp at hp
  | _ => rfl

theorem State.withScrub_frame (s : State) (x : Scrubber) : unchangedBut [.scrub] s { s with scrub := x } := by
  intro p hp
  cases p with
  | scrub => simp at hp
  | _ => rfl

theorem State.withFill_frame (s : State) (x : FillUnit) : unchangedBut [.fill] s { s with fill := x } := by
  intro p hp
  cases p with
  | fill => simp at hp
  | _ => rfl

theorem State.withRetention_frame (s : State) (x : Retention) : unchangedBut [.retention] s { s with retention := x } := by
  intro p hp
  cases p with
  | retention => simp at hp
  | _ => rfl

theorem State.withLog_frame (s : State) (x : ErrorLog) : unchangedBut [.log] s { s with log := x } := by
  intro p hp
  cases p with
  | log => simp at hp
  | _ => rfl

theorem State.withArbs_frame (s : State) (x : Four Arbiter) : unchangedBut allArbs s { s with arbs := x } := by
  intro p hp
  cases p with
  | arb b => simp at hp
  | _ => rfl

theorem State.withTick_frame (s : State) (x : TickTimer) : unchangedBut [.tick] s { s with tick := x } := by
  intro p hp
  cases p with
  | tick => simp at hp
  | _ => rfl

theorem State.loseContents_frame (s : State) (b : BankNo) : unchangedBut [.array] s (s.loseContents b) := by
  intro p hp
  cases p with
  | array => simp at hp
  | _ => rfl

theorem State.withGroups_frame (s : State) (x : List (Nat × Group)) : unchangedBut [.groups] s { s with groups := x } := by
  intro p hp
  cases p with
  | groups => simp at hp
  | _ => rfl

theorem State.clearReports_frame (s : State) : unchangedBut [.log, .events] s s.clearReports := by
  intro p hp
  cases p with
  | log | events => simp at hp
  | _ => rfl

theorem State.finishColumn_frame (s : State) (b : BankNo) : unchangedBut [.bank b, .arb b] s (s.finishColumn b) := by
  rw [s.finishColumn_eq b]
  exact ((s.setBank_frame b _).mono (by simp)).andThen (State.setArb_frame _ b _) (by simp)

theorem State.closeRow_frame (s : State) (b : BankNo) : unchangedBut [.bank b, .arb b] s (s.closeRow b) := by
  have h : unchangedBut [.bank b, .arb b] s (s.setBank b { s.bank b with openRow := none, holdTimer := none }) :=
    (s.setBank_frame b _).mono (by simp)
  unfold State.closeRow
  dsimp only
  split
  · exact h.andThen (State.setArb_frame _ b _) (by simp)
  · exact h

theorem State.startClosed_frame (s : State) (b : BankNo) (kind : OpKind) (addr : WordAddr) :
    unchangedBut [.bank b, .arb b] s (s.startClosed b kind addr) :=
  (s.closeRow_frame b).andThen (State.setBank_frame _ b _) (by simp)

theorem State.parted_frame (s : State) (b : BankNo) : unchangedBut [.arb b, .ties] s (s.parted b) := by
  unfold State.parted
  split
  · intro p hp
    cases p with
    | arb c => exact Four.get_set_ne _ _ (by rintro rfl; simp at hp)
    | ties => simp at hp
    | _ => rfl
  · exact .refl _ _

theorem State.takeRequest_frame (s : State) (b : BankNo) (r : Requester) : unchangedBut [.arb b] s (s.takeRequest b r) := by
  cases r with
  | refresh => exact .refl _ _
  | _ => exact s.setArb_frame b _

theorem State.countGrant_frame (s : State) (b : BankNo) (r : Requester) (how : Picked) (hit : Bool) :
    unchangedBut [.arb b] s (s.countGrant b r how hit) := by
  cases how <;> exact s.setArb_frame b _

/-! ### The parts the shared operations touch -/

theorem State.skips_frame (b : BankNo) (fuel : Nat) : ∀ s : State, unchangedBut [.account b] s (s.skips b fuel) := by
  induction fuel with
  | zero => exact fun s => .refl _ s
  | succ fuel ih =>
    intro s
    rw [State.skips]
    split
    · exact (s.setAccount_frame b _).trans (ih _)
    · exact .refl _ s

theorem State.applySkip_frame (s : State) (b : BankNo) : unchangedBut [.account b] s (s.applySkip b) := s.skips_frame b _

theorem State.applySkips_frame (s : State) : unchangedBut allAccounts s s.applySkips :=
  .foldl (fun u b => (u.applySkip_frame b).mono (by simp [allAccounts])) _ s

theorem State.hand_frame (s : State) (f : Finding) : unchangedBut [.log, .events] s (s.hand f) := by
  intro p hp
  cases p with
  | log | events => simp at hp
  | _ => simp [Part.same]

theorem State.resetFill_frame (s : State) : unchangedBut ([.groups, .fill] ++ allArbs) s s.resetFill := by
  have h : unchangedBut ([.groups, .fill] ++ allArbs) s s.withdrawFill.discardPending :=
    ((s.withArbs_frame _).mono (by simp)).andThen (State.withGroups_frame s.withdrawFill _) (by simp)
  unfold State.resetFill
  dsimp only
  split
  · exact h.andThen (State.withFill_frame _ _) (by simp)
  · exact (h.andThen (State.setGroup_frame _ _ blankGroup) (by simp)).andThen (State.withFill_frame _ _) (by simp)
  · exact h.andThen (State.withFill_frame _ _) (by simp)

theorem State.resetScrub_frame (s : State) : unchangedBut ([.scrub] ++ allArbs ++ allBanks) s s.resetScrub := by
  intro p hp
  cases p with
  | scrub => simp at hp
  | arb b => simp [allArbs] at hp
  | bank b => simp [allBanks] at hp
  | _ => rfl

theorem State.markResidual_frame (s : State) (n : ChanNo) :
    unchangedBut ([.chan n, .stream] ++ allBanks) s (s.markResidual n) := by
  intro p hp
  cases p with
  | chan m => exact Four.get_set_ne _ _ (by rintro rfl; simp at hp)
  | stream => simp at hp
  | bank b => simp [allBanks] at hp
  | _ => rfl

theorem State.dropWork_frame (s : State) (n : ChanNo) :
    unchangedBut ([.chan n, .stream] ++ allArbs ++ allBanks) s (s.dropWork n) :=
  (((s.withArbs_frame _).mono (by grind)).andThen ((s.withdrawChan n).markResidual_frame n) (by grind)).andThen
    (State.setChan_frame _ n _) (by grind)

theorem State.resetChan_frame (s : State) (n : ChanNo) :
    unchangedBut ([.chan n, .stream] ++ allArbs ++ allBanks) s (s.resetChan n) :=
  (s.dropWork_frame n).andThen (State.setChan_frame _ n _) (by grind)

theorem State.resetChans_frame (s : State) :
    unchangedBut (.stream :: allArbs ++ allBanks ++ allChans) s (Four.indices.foldl (fun v n => v.resetChan n) s) :=
  .foldl (fun v n => (v.resetChan_frame n).mono (by grind [mem_allChans])) _ s

end Sys2Proof.Machine
end

section
-- One thread at a time: the stack of each thread counts against the memory limit of the check.
set_option Elab.async false
/-! SUPPORT. Proofs/Keeps.lean: the relation `Keeps`: every property that Safety.lean says each step keeps passes from one state to the
next. Here are its rules: one for each plain update, with what the update must respect. -/

namespace Sys2Proof.Machine

/-! ### What is said of one bank, of its parts alone -/

/-- What `State.BankOk` says, of a bank's sequencer, arbiter and refresh account. -/
structure BankLaw (k : Bank) (a : Arbiter) (r : RefreshAccount) : Prop where
  low : -4 ≤ r.balance
  high : r.balance ≤ 8
  refreshing : k.op.any (fun o => o.kind == .refresh) = true → -3 ≤ r.balance
  openRow : k.openRow ≠ none → k.state = .ready
  closed : ∀ o, k.op = some o → o.kind.isColumn = false → k.openRow = none
  kinds : a.kindsOk
  settle : k.settle ≤ 8
  streak : a.streak ≤ 16

theorem bankOk_iff {s : State} {b : BankNo} : s.BankOk b ↔ BankLaw (s.bank b) (s.arb b) (s.account b) :=
  ⟨fun ⟨h1, h2, h3, h4, h5, h6, h7, h8⟩ => ⟨h1, h2, h3, h4, h5, h6, h7, h8⟩,
    fun ⟨h1, h2, h3, h4, h5, h6, h7, h8⟩ => ⟨h1, h2, h3, h4, h5, h6, h7, h8⟩⟩

/-- What `State.ChannelOk` says, of the channel alone. -/
structure ChannelLaw (c : Channel) : Prop where
  pauses : c.state = .idle ∨ c.state = .halted → c.pauses = noPauses
  aborting : c.state = .idle ∨ c.state = .halted → c.aborting = false
  fault : c.fault ≠ .none → c.stop = .fault

theorem channelOk_iff {s : State} {n : ChanNo} : s.ChannelOk n ↔ ChannelLaw (s.chan n) :=
  ⟨fun ⟨h1, h2, h3⟩ => ⟨h1, h2, h3⟩, fun ⟨h1, h2, h3⟩ => ⟨h1, h2, h3⟩⟩

namespace BankLaw

variable {k k' : Bank} {a a' : Arbiter} {r r' : RefreshAccount}

/-- The sequencer may change when it has no REFRESH in flight that it had not before, closes its row unless it stays as it was, and counts
no settle wait above 8. -/
theorem withBank (h : BankLaw k a r) (hs : k'.settle ≤ 8)
    (hr : k'.op.any (fun o => o.kind == .refresh) = true → k.op.any (fun o => o.kind == .refresh) = true)
    (ho : k'.openRow = none ∨ k'.openRow = k.openRow ∧ k'.state = k.state ∧
      ∀ o, k'.op = some o → ∃ p, k.op = some p ∧ p.kind = o.kind) : BankLaw k' a r where
  low := h.low
  high := h.high
  refreshing hk := h.refreshing (hr hk)
  openRow hk := by
    rcases ho with ho | ⟨ho, hst, _⟩
    · exact absurd ho hk
    · exact hst ▸ h.openRow (ho ▸ hk)
  closed o hop hcol := by
    rcases ho with ho | ⟨ho, _, hop'⟩
    · exact ho
    · obtain ⟨p, hp, hpk⟩ := hop' o hop
      exact ho ▸ h.closed p hp (hpk ▸ hcol)
  kinds := h.kinds
  settle := hs
  streak := h.streak

theorem withArb (h : BankLaw k a r) (hk : a'.kindsOk) (hs : a'.streak ≤ 16) : BankLaw k a' r :=
  { h with kinds := hk, streak := hs }

theorem withAccount (h : BankLaw k a r) (hl : -4 ≤ r'.balance) (hh : r'.balance ≤ 8)
    (hr : k.op.any (fun o => o.kind == .refresh) = true → -3 ≤ r'.balance) : BankLaw k a r' :=
  { h with low := hl, high := hh, refreshing := hr }

/-- Operations in flight may be marked or counted, their kinds kept. -/
theorem mapOp (h : BankLaw k a r) (f : Op → Op) (hf : ∀ o, (f o).kind = o.kind) (t : Option HoldTimer) :
    BankLaw { k with holdTimer := t, op := k.op.map f } a r := by
  refine h.withBank h.settle ?_ (.inr ⟨rfl, rfl, ?_⟩)
  · cases hk : k.op <;> simp [hf]
  · intro o ho
    obtain ⟨p, hp, rfl⟩ := Option.map_eq_some_iff.1 ho
    exact ⟨p, hp, (hf p).symm⟩

end BankLaw

/-- The law of channels speaks of the state, the pause reasons, STOP, FAULT and ABORTING alone. -/
theorem ChannelLaw.same {c c' : Channel} (h : ChannelLaw c) (state : c'.state = c.state := by rfl)
    (pauses : c'.pauses = c.pauses := by rfl) (aborting : c'.aborting = c.aborting := by rfl)
    (stop : c'.stop = c.stop := by rfl) (fault : c'.fault = c.fault := by rfl) : ChannelLaw c' :=
  ⟨by rw [state, pauses]; exact h.pauses, by rw [state, aborting]; exact h.aborting, by rw [stop, fault]; exact h.fault⟩

/-- A channel that is LOADING, ACTIVE or PAUSED may have any pause reasons. -/
theorem ChannelLaw.running {c c' : Channel} (h : ChannelLaw c)
    (state : ¬(c'.state = .idle ∨ c'.state = .halted) := by simp) (stop : c'.stop = c.stop := by rfl)
    (fault : c'.fault = c.fault := by rfl) : ChannelLaw c' :=
  ⟨fun hs => absurd hs state, fun hs => absurd hs state, by rw [stop, fault]; exact h.fault⟩

/-! ### The relation -/

/-- Each property of Safety.lean that every step keeps passes from `s` to `t`: that of each bank, of the ranges, of the log, of each channel
and of the tables, every one on its own. -/
structure Keeps (s t : State) : Prop where
  bank : ∀ b, s.BankOk b → t.BankOk b
  ranges : s.RangesOk → t.RangesOk
  log : s.LogOk → t.LogOk
  channel : ∀ n, s.ChannelOk n → t.ChannelOk n
  tables : s.tablesWf → t.tablesWf

namespace Keeps

variable {s t u : State}

theorem refl (s : State) : Keeps s s := ⟨fun _ h => h, id, id, fun _ h => h, id⟩

theorem trans (h : Keeps s t) (h' : Keeps t u) : Keeps s u :=
  ⟨fun b hb => h'.bank b (h.bank b hb), h'.ranges ∘ h.ranges, h'.log ∘ h.log, fun n hn => h'.channel n (h.channel n hn),
    h'.tables ∘ h.tables⟩

/-- The parts of which nothing is said. -/
def freeParts : List Part :=
  [.pending, .resetLine, .fitted, .tick, .override, .command, .arg, .cmdStatus, .stream, .events, .ties]

/-- The parts of which the ranges speak, the Row Group Table apart. -/
def rangeParts : List Part := [.config, .timing, .fill, .scrub, .host, .retention]

section
variable {ps : List Part} (hu : unchangedBut ps t u)
include hu

theorem bankOk_of_frame {b : BankNo} (h : t.BankOk b) (hp : ∀ p ∈ [Part.bank b, .arb b, .account b], p ∉ ps) :
    u.BankOk b := by
  have hb : u.bank b = t.bank b := hu (.bank b) (hp _ (by simp))
  have ha : u.arb b = t.arb b := hu (.arb b) (hp _ (by simp))
  have hr : u.account b = t.account b := hu (.account b) (hp _ (by simp))
  rw [bankOk_iff] at h ⊢
  rwa [hb, ha, hr]

theorem rangesOk_of_weak (h : t.RangesOk) (hp : ∀ p ∈ rangeParts, p ∉ ps) (hw : ∀ e ∈ u.groups, e.2.weak ≤ 15) :
    u.RangesOk := by
  have ec : u.config = t.config := hu .config (hp _ (by simp [rangeParts]))
  have et : u.timing = t.timing := hu .timing (hp _ (by simp [rangeParts]))
  have ef : u.fill = t.fill := hu .fill (hp _ (by simp [rangeParts]))
  have es : u.scrub = t.scrub := hu .scrub (hp _ (by simp [rangeParts]))
  have eh : u.host = t.host := hu .host (hp _ (by simp [rangeParts]))
  have er : u.retention = t.retention := hu .retention (hp _ (by simp [rangeParts]))
  exact ⟨ec ▸ h.scrubRate, et ▸ h.tOpen, et ▸ h.tCol, et ▸ h.tClose, et ▸ h.tRef, et ▸ h.tSrx, eh ▸ h.hostQueue,
    ef ▸ h.fillQueue, es ▸ h.credits, er ▸ h.unsettled, hw⟩

theorem rangesOk_of_frame (h : t.RangesOk) (hp : ∀ p ∈ .groups :: rangeParts, p ∉ ps) : u.RangesOk := by
  have eg : u.groups = t.groups := hu .groups (hp _ (by simp))
  exact rangesOk_of_weak hu h (fun p hm => hp p (by simp [hm])) (eg ▸ h.weak)

theorem logOk_of_frame (h : t.LogOk) (hp : .log ∉ ps) : u.LogOk := by
  have e : u.log = t.log := hu .log hp
  exact ⟨e ▸ h.records, e ▸ h.overflow, e ▸ h.repeats⟩

theorem channelOk_of_frame {n : ChanNo} (h : t.ChannelOk n) (hp : .chan n ∉ ps) : u.ChannelOk n := by
  have e : u.chan n = t.chan n := hu (.chan n) hp
  rw [channelOk_iff] at h ⊢
  rwa [e]

theorem tablesWf_of_frame (h : t.tablesWf) (hp : ∀ p ∈ [Part.array, .groups], p ∉ ps) : u.tablesWf := by
  have ea : u.array = t.array := hu .array (hp _ (by simp))
  have eg : u.groups = t.groups := hu .groups (hp _ (by simp))
  exact ⟨ea ▸ h.1, eg ▸ h.2⟩

end

/-! ### One rule for each kind of part -/

/-- Parts of which nothing is said may change at will, and those of which the ranges speak within them. -/
theorem andRanges (h : Keeps s t) (hu : unchangedBut (freeParts ++ rangeParts) t u)
    (hr : t.RangesOk → u.RangesOk) : Keeps s u :=
  h.trans
    { bank := fun _ hb => bankOk_of_frame hu hb (by simp [freeParts, rangeParts])
      ranges := hr
      log := fun hl => logOk_of_frame hu hl (by simp [freeParts, rangeParts])
      channel := fun _ hn => channelOk_of_frame hu hn (by simp [freeParts, rangeParts])
      tables := fun hw => tablesWf_of_frame hu hw (by simp [freeParts, rangeParts]) }

/-- Parts of which nothing is said may change at will. -/
theorem andFree (h : Keeps s t) (hu : unchangedBut freeParts t u) : Keeps s u :=
  h.andRanges (hu.mono (by simp)) fun hr => rangesOk_of_frame hu hr (by simp [freeParts, rangeParts])

/-- The parts of bank `b` may change together as the law of banks allows. -/
theorem andBank {b : BankNo} (h : Keeps s t) (hu : unchangedBut [.bank b, .arb b, .account b, .ties] t u)
    (hb : t.BankOk b → u.BankOk b) : Keeps s u :=
  h.trans
    { bank := fun c hc => by
        by_cases he : c = b
        · subst he
          exact hb hc
        · exact bankOk_of_frame hu hc (by simp [he])
      ranges := fun hr => rangesOk_of_frame hu hr (by simp [rangeParts])
      log := fun hl => logOk_of_frame hu hl (by simp)
      channel := fun _ hn => channelOk_of_frame hu hn (by simp)
      tables := fun hw => tablesWf_of_frame hu hw (by simp) }

/-- The sequencers and arbiters of all banks may change as the law of banks allows. -/
theorem andBanks (h : Keeps s t) (hu : unchangedBut (allBanks ++ allArbs ++ freeParts) t u)
    (hb : ∀ b, t.BankOk b → u.BankOk b) : Keeps s u :=
  h.trans
    { bank := hb
      ranges := fun hr => rangesOk_of_frame hu hr (by simp [rangeParts, allBanks, allArbs, freeParts])
      log := fun hl => logOk_of_frame hu hl (by simp [allBanks, allArbs, freeParts])
      channel := fun _ hn => channelOk_of_frame hu hn (by simp [allBanks, allArbs, freeParts])
      tables := fun hw => tablesWf_of_frame hu hw (by simp [allBanks, allArbs, freeParts]) }

/-- The log may change as its law allows. -/
theorem andLog (h : Keeps s t) (hu : unchangedBut (.log :: freeParts) t u) (hl : t.LogOk → u.LogOk) : Keeps s u :=
  h.trans
    { bank := fun _ hb => bankOk_of_frame hu hb (by simp [freeParts])
      ranges := fun hr => rangesOk_of_frame hu hr (by simp [freeParts, rangeParts])
      log := hl
      channel := fun _ hn => channelOk_of_frame hu hn (by simp [freeParts])
      tables := fun hw => tablesWf_of_frame hu hw (by simp [freeParts]) }

/-- The tables may change, their canonical form and the weak counts' range kept. -/
theorem andTables (h : Keeps s t) (hu : unchangedBut [.array, .groups] t u) (hw : t.tablesWf → u.tablesWf)
    (hr : (∀ e ∈ t.groups, e.2.weak ≤ 15) → ∀ e ∈ u.groups, e.2.weak ≤ 15) : Keeps s u := by
  exact h.trans
    { bank := fun _ hb => bankOk_of_frame hu hb (by simp)
      ranges := fun ht => rangesOk_of_weak hu ht (by simp [rangeParts]) (hr ht.weak)
      log := fun hl => logOk_of_frame hu hl (by simp)
      channel := fun _ hn => channelOk_of_frame hu hn (by simp)
      tables := hw }

/-- Channel `n` may change as the law of channels allows. -/
theorem setChan (h : Keeps s t) (n : ChanNo) (c : Channel) (hc : ChannelLaw (t.chan n) → ChannelLaw c) :
    Keeps s (t.setChan n c) := by
  have hu := t.setChan_frame n c
  refine h.trans
    { bank := fun _ hb => bankOk_of_frame hu hb (by simp)
      ranges := fun ht => rangesOk_of_frame hu ht (by simp [rangeParts])
      log := fun hl => logOk_of_frame hu hl (by simp)
      channel := fun m hm => ?_
      tables := fun hw => tablesWf_of_frame hu hw (by simp) }
  by_cases he : m = n
  · subst he
    rw [channelOk_iff] at hm ⊢
    rw [State.setChan_chan, if_pos rfl]
    exact hc hm
  · exact channelOk_of_frame hu hm (by simp [he])

/-! ### The plain updates -/

theorem setBank (h : Keeps s t) (b : BankNo) (k : Bank)
    (hk : BankLaw (t.bank b) (t.arb b) (t.account b) → BankLaw k (t.arb b) (t.account b)) : Keeps s (t.setBank b k) :=
  h.andBank (b := b) ((t.setBank_frame b k).mono (by simp)) fun hb => by
    rw [bankOk_iff] at hb ⊢
    simpa [State.setBank_bank] using hk hb

theorem setArb (h : Keeps s t) (b : BankNo) (a : Arbiter)
    (ha : BankLaw (t.bank b) (t.arb b) (t.account b) → a.kindsOk ∧ a.streak ≤ 16) : Keeps s (t.setArb b a) :=
  h.andBank (b := b) ((t.setArb_frame b a).mono (by simp)) fun hb => by
    rw [bankOk_iff] at hb ⊢
    simpa [State.setArb_arb] using hb.withArb (ha hb).1 (ha hb).2

theorem setAccount (h : Keeps s t) (b : BankNo) (r : RefreshAccount)
    (hr : BankLaw (t.bank b) (t.arb b) (t.account b) → BankLaw (t.bank b) (t.arb b) r) : Keeps s (t.setAccount b r) :=
  h.andBank (b := b) ((t.setAccount_frame b r).mono (by simp)) fun hb => by
    rw [bankOk_iff] at hb ⊢
    simpa [State.setAccount_account] using hr hb

/-- An entry of the Row Group Table may change, its weak count not above 15 or not above what it was. -/
theorem setGroup (h : Keeps s t) (g : Nat) (x : Group) (hx : x.weak ≤ 15 ∨ x.weak ≤ (t.group g).weak) :
    Keeps s (t.setGroup g x) := by
  have read : ∀ {l : List (Nat × Group)}, (∀ e ∈ l, e.2.weak ≤ 15) → (tableRead blankGroup l g).weak ≤ 15 := by
    intro l
    induction l with
    | nil => exact fun _ => Nat.zero_le _
    | cons e rest ih =>
      intro hl
      rw [tableRead]
      split
      · exact hl e (by simp)
      · exact ih fun e' he' => hl e' (by simp [he'])
  refine h.andTables ((t.setGroup_frame g x).mono (by simp)) (t.setGroup_wf g x) fun hw e he => ?_
  rcases mem_tableWrite he with ⟨rfl, _⟩ | he
  · exact hx.elim id fun hx => hx.trans (read hw)
  · exact hw e he

theorem setGroupState (h : Keeps s t) (g : Nat) (st : GroupState) : Keeps s (t.setGroupState g st) :=
  h.setGroup g _ (.inr (Nat.le_refl _))

theorem setWords (h : Keeps s t) (w : WordAddr) (xs : List Stored) : Keeps s (t.setWords w xs) := by
  have hf := t.setWords_frame w xs
  refine h.andTables (hf.mono (by simp)) (t.setWords_wf w xs) ?_
  rw [show (t.setWords w xs).groups = t.groups from hf .groups (by simp)]
  exact id

theorem setWord (h : Keeps s t) (w : WordAddr) (x : Stored) : Keeps s (t.setWord w x) := h.setWords w [x]

/-- Entries may be taken out of the Row Group Table. -/
theorem filterGroups (h : Keeps s t) (p : Nat × Group → Bool) : Keeps s { t with groups := t.groups.filter p } := by
  refine h.andTables (fun q hq => ?_) (fun hw => ⟨hw.1, filter_wf p hw.2⟩) fun hw e he => hw e (List.mem_filter.1 he).1
  cases q with
  | groups => simp at hq
  | _ => rfl

theorem loseContents (h : Keeps s t) (b : BankNo) : Keeps s (t.loseContents b) := by
  refine h.andTables (fun q hq => ?_) (t.loseContents_wf b) id
  cases q with
  | array => simp at hq
  | _ => rfl

/-- The Row Group Table and the array apart, nothing is said of these. -/
theorem raise (h : Keeps s t) (e : Event) : Keeps s (t.raise e) :=
  h.andFree ((t.raise_frame e).mono (by simp [freeParts]))

/-- The host port may change, its queue not longer than it was, or than 4. -/
theorem withHost (h : Keeps s t) (x : HostPort) (hx : x.queue.length ≤ 4 ∨ x.queue.length ≤ t.host.queue.length) :
    Keeps s { t with host := x } :=
  h.andRanges ((t.withHost_frame x).mono (by simp [rangeParts])) fun hr =>
    { hr with hostQueue := hx.elim id fun hx => hx.trans hr.hostQueue }

theorem withFill (h : Keeps s t) (x : FillUnit) (hx : x.queue.length ≤ 8 ∨ x.queue.length ≤ t.fill.queue.length) :
    Keeps s { t with fill := x } :=
  h.andRanges ((t.withFill_frame x).mono (by simp [rangeParts])) fun hr =>
    { hr with fillQueue := hx.elim id fun hx => hx.trans hr.fillQueue }

theorem withScrub (h : Keeps s t) (x : Scrubber) (hx : x.credits ≤ 16 ∨ x.credits ≤ t.scrub.credits) :
    Keeps s { t with scrub := x } :=
  h.andRanges ((t.withScrub_frame x).mono (by simp [rangeParts])) fun hr =>
    { hr with credits := hx.elim id fun hx => hx.trans hr.credits }

theorem withRetention (h : Keeps s t) (x : Retention) (hx : x.unsettled ≤ 4 ∨ x.unsettled ≤ t.retention.unsettled) :
    Keeps s { t with retention := x } :=
  h.andRanges ((t.withRetention_frame x).mono (by simp [rangeParts])) fun hr =>
    { hr with unsettled := hx.elim id fun hx => hx.trans hr.unsettled }

theorem setScrub (h : Keeps s t) (x : ScrubState) : Keeps s (t.setScrub x) := h.withScrub _ (.inr (Nat.le_refl _))

theorem setRetention (h : Keeps s t) (x : RetentionState) : Keeps s (t.setRetention x) :=
  h.withRetention _ (.inr (Nat.le_refl _))

theorem reportSettled (h : Keeps s t) : Keeps s t.reportSettled := h.withRetention _ (.inr (Nat.sub_le _ _))

theorem endCycle (h : Keeps s t) (e : BusEnd) : Keeps s (t.endCycle e) := h.withHost _ (.inr (Nat.le_refl _))

theorem holdCycle (h : Keeps s t) (c : Cycle) : Keeps s (t.holdCycle c) := h.withHost _ (.inr (Nat.le_refl _))

theorem withStream (h : Keeps s t) (x : StreamPort) : Keeps s { t with stream := x } := by
  refine h.andFree fun p hp => ?_
  cases p with
  | stream => simp [freeParts] at hp
  | _ => rfl

theorem withOverride (h : Keeps s t) (x : CheckOverride) : Keeps s { t with override := x } := by
  refine h.andFree fun p hp => ?_
  cases p with
  | override => simp [freeParts] at hp
  | _ => rfl

theorem setSrq (h : Keeps s t) (n : ChanNo) (level : Bool) : Keeps s (t.setSrq n level) := h.withStream _

/-- A finding is coalesced, dropped from a full log, or recorded where there is room (R177, R178, R179). -/
theorem hand (h : Keeps s t) (f : Finding) : Keeps s (t.hand f) := by
  have hf : unchangedBut (.log :: freeParts) t (t.hand f) := by
    intro p hp
    cases p with
    | log | events => simp [freeParts] at hp
    | _ => simp [Part.same]
  refine h.andLog hf fun hl => ?_
  unfold State.hand
  split
  · refine ⟨?_, hl.overflow, ?_⟩
    · have := hl.records
      cases hg : t.log.records.getLast? with
      | none => simp_all
      | some r =>
        have : t.log.records ≠ [] := by rintro hn; simp [hn] at hg
        have := List.length_pos_iff.2 this
        simp
        omega
    · intro r hr
      simp only [List.mem_append, Option.mem_toList, Option.map_eq_some_iff] at hr
      rcases hr with hr | ⟨r', _, rfl⟩
      · exact hl.repeats r (List.mem_of_mem_dropLast hr)
      · exact Nat.min_le_left _ _
  · split
    · exact ⟨hl.records, Nat.min_le_left _ _, hl.repeats⟩
    · rename_i hroom
      refine ⟨by simp [Config.logDepth] at hroom ⊢; omega, hl.overflow, fun r hr => ?_⟩
      rcases List.mem_append.1 hr with hr | hr
      · exact hl.repeats r hr
      · rw [List.mem_singleton.1 hr]
        exact Nat.zero_le _

/-! ### Several updates of one form -/

theorem foldl {α : Type} {f : State → α → State} (hf : ∀ u x, Keeps s u → Keeps s (f u x)) (l : List α) :
    ∀ {t : State}, Keeps s t → Keeps s (l.foldl f t) := by
  induction l with
  | nil => exact fun h => h
  | cons x rest ih => exact fun h => ih (hf _ x h)

theorem forTogether {α : Type} (h : Keeps s t) (l : List α) {f : α → State → State}
    (hf : ∀ x u, Keeps s u → Keeps s (f x u)) : Keeps s (t.forTogether l f) := by
  unfold State.forTogether
  split
  · exact foldl (fun u x => hf x u) _ h
  · refine foldl (fun u x => hf x u) _ (h.andFree fun p hp => ?_)
    cases p with
    | ties => simp [freeParts] at hp
    | _ => rfl

/-- All sequencers may change alike as the law of banks allows. -/
theorem mapBanks (h : Keeps s t) (f : Bank → Bank) (hf : ∀ k a r, BankLaw k a r → BankLaw (f k) a r) :
    Keeps s { t with banks := t.banks.map f } := by
  refine h.andBanks (fun p hp => ?_) fun b hb => ?_
  · cases p with
    | bank b => simp [allBanks] at hp
    | _ => rfl
  · rw [bankOk_iff] at hb ⊢
    have e : ({ t with banks := t.banks.map f } : State).bank b = f (t.bank b) := Four.get_map _ _ _
    exact e ▸ hf _ _ _ hb

/-- All arbiters may change alike as the law of banks allows. -/
theorem mapArbs (h : Keeps s t) (f : Arbiter → Arbiter) (hf : ∀ a, a.kindsOk → (f a).kindsOk)
    (hs : ∀ a, (f a).streak = a.streak) : Keeps s { t with arbs := t.arbs.map f } := by
  refine h.andBanks (fun p hp => ?_) fun b hb => ?_
  · cases p with
    | arb b => simp [allArbs] at hp
    | _ => rfl
  · rw [bankOk_iff] at hb ⊢
    have e : ({ t with arbs := t.arbs.map f } : State).arb b = f (t.arb b) := Four.get_map _ _ _
    exact e ▸ hb.withArb (hf _ hb.kinds) ((hs _).trans_le hb.streak)

end Keeps
end Sys2Proof.Machine
end

section
-- One thread at a time: the stack of each thread counts against the memory limit of the check.
set_option Elab.async false
/-! SUPPORT. Proofs/KeepsBlocks.lean: every operation of the blocks keeps what Safety.lean says, in the order of the model's files. Each
lemma goes through those of the operations it is made of. -/

namespace Sys2Proof.Machine
namespace Keeps

variable {s t : State}

/-! ### Check unit -/

theorem weakRise (h : Keeps s t) (source : Source) (g : Nat) : Keeps s (t.weakRise source g) := by
  unfold State.weakRise
  dsimp only
  split
  · rename_i hw
    have h' := h.setGroup g { t.group g with weak := (t.group g).weak + 1 } (.inl hw.2)
    split
    · exact (h'.hand _).raise _
    · exact h'
  · exact h

theorem checkRead (h : Keeps s t) (source : Source) (wb : Bool) (w : WordAddr) : Keeps s (t.checkRead source wb w) := by
  unfold State.checkRead
  dsimp only
  split
  · exact h
  · refine (Keeps.hand ?_ _).weakRise _ _
    split
    · exact h.setWord _ _
    · exact h
  · exact h.hand _

theorem checkBurst (h : Keeps s t) (source : Source) (wb : Bool) (ws : List WordAddr) :
    Keeps s (t.checkBurst source wb ws) :=
  foldl (fun _ w hu => hu.checkRead source wb w) ws h

theorem mergeWord (h : Keeps s t) (w : WordAddr) (lanes : BitVec 4) (data : Word) :
    Keeps s (t.mergeWord w lanes data) := by
  unfold State.mergeWord
  dsimp only
  split
  · exact h.setWord _ _
  · exact ((h.setWord _ _).hand _).weakRise _ _
  · exact h.hand _

/-! ### Bank sequencer -/

theorem closeRow (h : Keeps s t) (b : BankNo) : Keeps s (t.closeRow b) := by
  have h' := h.setBank b { t.bank b with openRow := none, holdTimer := none } fun hb =>
    hb.withBank hb.settle id (.inl rfl)
  unfold State.closeRow
  dsimp only
  split
  · exact h'.setArb b _ fun hb => ⟨hb.kinds, Nat.zero_le _⟩
  · exact h'


theorem closeRow_openRow (s : State) (b : BankNo) : ((s.closeRow b).bank b).openRow = none := by
  unfold State.closeRow
  dsimp only
  split <;> simp [State.setBank_bank]

theorem startClosed_openRow (s : State) (b : BankNo) (kind : OpKind) (addr : WordAddr) :
    ((s.startClosed b kind addr).bank b).openRow = none := by
  simp [State.startClosed, State.setBank_bank, closeRow_openRow]

/-- An operation that closes the row begins; REFRESH only above −4. -/
theorem startClosed (h : Keeps s t) (b : BankNo) (kind : OpKind) (addr : WordAddr)
    (hk : kind = .refresh → -3 ≤ (t.account b).balance) : Keeps s (t.startClosed b kind addr) := by
  refine (h.closeRow b).setBank b _ fun hb => ?_
  have ho := closeRow_openRow t b
  have ha : (t.closeRow b).account b = t.account b := t.closeRow_frame b (.account b) (by simp)
  refine { hb with refreshing := ?_, openRow := ?_, closed := ?_, settle := hb.settle }
  · intro hr
    rw [ha]
    exact hk (by simpa [State.newOp] using hr)
  · exact fun hn => absurd ho hn
  · exact fun _ _ _ => ho

theorem clearOp (h : Keeps s t) (b : BankNo) : Keeps s (t.clearOp b) :=
  h.setBank b _ fun hb => hb.withBank hb.settle (by simp) (.inr ⟨rfl, rfl, by simp⟩)

theorem finishColumn (h : Keeps s t) (b : BankNo) : Keeps s (t.finishColumn b) := by
  unfold State.finishColumn
  dsimp only
  split
  · exact (h.clearOp b).closeRow b
  · exact (h.clearOp b).setBank b _ fun hb => hb.withBank hb.settle id (.inr ⟨rfl, rfl, fun o ho => ⟨o, ho, rfl⟩⟩)

/-! ### Refresh accounts -/

theorem setBalance (h : Keeps s t) (b : BankNo) (balance : Int) (cursor : BitVec 8) (hl : -3 ≤ balance)
    (hh : balance ≤ 8) : Keeps s (t.setBalance b balance cursor) :=
  h.setAccount b _ fun hb => hb.withAccount (by simp only; omega) hh fun _ => hl

/-- One skip lowers a balance above −4 with no REFRESH in flight (R55). -/
theorem skipOne (h : Keeps s t) (b : BankNo) (hd : t.skipDue b = true) : Keeps s (t.settleOne b (-1)) := by
  simp only [State.skipDue, Bool.and_eq_true, decide_eq_true_eq, Bool.not_eq_true'] at hd
  obtain ⟨⟨⟨_, hlow⟩, href⟩, _⟩ := hd
  refine h.setAccount b _ fun hb => hb.withAccount ?_ ?_ ?_
  · simp only
    omega
  · have := hb.high
    simp only
    omega
  · exact fun hr => absurd (hr.symm.trans href) (by simp)

theorem skips (b : BankNo) (fuel : Nat) : ∀ {t : State}, Keeps s t → Keeps s (t.skips b fuel) := by
  induction fuel with
  | zero => exact fun h => h
  | succ fuel ih =>
    intro t h
    rw [State.skips]
    split
    · rename_i hd
      exact ih (h.skipOne b hd)
    · exact h

theorem applySkip (h : Keeps s t) (b : BankNo) : Keeps s (t.applySkip b) := h.skips b _

theorem applySkips (h : Keeps s t) : Keeps s t.applySkips := foldl (fun _ b hu => hu.applySkip b) _ h

theorem withdrawFill (h : Keeps s t) : Keeps s t.withdrawFill :=
  h.mapArbs _ (fun _ ⟨hh, hc, _, hs⟩ => ⟨hh, hc, by simp, hs⟩) fun _ => rfl

theorem placeFill (h : Keeps s t) (g seg : Nat) : Keeps s (t.placeFill g seg) := by
  unfold State.placeFill
  dsimp only
  split
  · refine h.setArb _ _ fun hb => ⟨?_, hb.streak⟩
    obtain ⟨hh, hc, _, hs⟩ := hb.kinds
    exact ⟨hh, hc, by rintro r ⟨⟩; rfl, hs⟩
  · exact h

theorem restartFill (h : Keeps s t) (g : Nat) : Keeps s (t.restartFill g) := by
  unfold State.restartFill
  dsimp only
  split
  · have h' := h.withFill { t.fill with segment := 0, restart := t.fill.restart || t.fillInFlight } (by exact .inr (Nat.le_refl _))
    split
    · exact h'.placeFill _ _
    · exact h'
  · exact h

theorem sacrifice (h : Keeps s t) (g : Nat) : Keeps s (t.sacrifice g) := by
  unfold State.sacrifice
  split
  · exact ((h.setGroupState _ _).hand _).raise _
  · exact ((h.restartFill _).hand _).raise _
  all_goals exact h

theorem tickBank (h : Keeps s t) (b : BankNo) : Keeps s (t.tickBank b) := by
  unfold State.tickBank
  dsimp only
  split
  · split
    · rename_i hlt
      refine (h.setAccount b _ fun hb => hb.withAccount ?_ ?_ fun hr => ?_).applySkip b
      · have := hb.low
        simp only
        omega
      · simp only
        omega
      · have := hb.refreshing hr
        simp only
        omega
    · split
      · exact h.sacrifice _
      · refine Keeps.applySkip ?_ b
        exact (h.sacrifice _).setAccount b _ fun hb =>
          hb.withAccount (by simpa using hb.low) (by simpa using hb.high) fun hr => by simpa using hb.refreshing hr
  · split
    · rename_i hc
      simp only [Bool.and_eq_true, decide_eq_true_eq] at hc
      exact h.setBank b _ fun hb => hb.withBank hc.2 id (.inr ⟨rfl, rfl, fun o ho => ⟨o, ho, rfl⟩⟩)
    · exact h
  all_goals exact h

/-! ### Fill engine -/

theorem markGroups (h : Keeps s t) (gs : List Nat) (st : GroupState) : Keeps s (t.markGroups gs st) :=
  foldl (fun _ g hu => hu.setGroupState g st) gs h

theorem discardGroups (h : Keeps s t) (gs : List Nat) (from_ : List GroupState) : Keeps s (t.discardGroups gs from_) := by
  refine foldl (fun u g hu => ?_) gs h
  split
  · exact hu.setGroup g _ (.inl (by decide))
  · exact hu

theorem takeUp (h : Keeps s t) : Keeps s t.takeUp := by
  unfold State.takeUp
  split
  · exact h
  · exact Keeps.placeFill ((h.setGroupState _ _).withFill _ (by exact .inr (Nat.le_refl _))) _ _

theorem requestSegment (h : Keeps s t) : Keeps s t.requestSegment := by
  unfold State.requestSegment
  split
  · split
    · exact h
    · exact h.placeFill _ _
  · exact h

theorem dropFillHead (h : Keeps s t) : Keeps s t.dropFillHead :=
  h.withFill _ (.inr (by simp))

theorem groupFilled (h : Keeps s t) (e : FillEntry) (rest : List FillEntry)
    (hq : rest.length + 1 ≤ t.fill.queue.length) : Keeps s (t.groupFilled e rest) := by
  have h' := h.setGroup e.next { state := .keep, weak := 0 } (.inl (by decide))
  unfold State.groupFilled
  dsimp only
  split
  · exact h'.withFill _ (.inr hq)
  · have h'' := h'.withFill { (t.setGroup e.next { state := .keep, weak := 0 }).fill with queue := rest, segment := 0 }
      (.inr (Nat.le_of_succ_le hq))
    split
    · exact h''.raise _
    · exact h''

theorem completeFill (h : Keeps s t) (b : BankNo) (o : Op) : Keeps s (t.completeFill b o) := by
  have h' := (h.setWords o.addr o.payload).finishColumn b
  unfold State.completeFill
  dsimp only
  split
  · exact h'
  · rename_i e rest hq
    split
    · exact Keeps.applySkip
        ((h'.setGroup e.next blankGroup (.inl (by decide))).dropFillHead.withFill _ (by exact .inr (Nat.le_refl _))) b
    · split
      · exact Keeps.requestSegment (h'.withFill _ (by exact .inr (Nat.le_refl _)))
      · split
        · exact Keeps.requestSegment (h'.withFill _ (by exact .inr (Nat.le_refl _)))
        · exact h'.groupFilled e rest (by rw [hq]; exact Nat.le_refl _)

theorem holdFill (h : Keeps s t) : Keeps s t.holdFill := h.withdrawFill.withFill _ (by exact .inr (Nat.le_refl _))

theorem releaseFill (h : Keeps s t) : Keeps s t.releaseFill := by
  have h' := h.withFill { t.fill with held := false } (by exact .inr (Nat.le_refl _))
  unfold State.releaseFill
  dsimp only
  split
  · split
    · exact h'.takeUp
    · exact h'.requestSegment
  · exact h'

theorem resetFill (h : Keeps s t) : Keeps s t.resetFill := by
  have h' : Keeps s t.withdrawFill.discardPending := h.withdrawFill.filterGroups _
  unfold State.resetFill
  dsimp only
  split
  · exact h'.withFill _ (.inl (by simp))
  · exact (h'.setGroup _ blankGroup (.inl (by decide))).withFill _ (.inl (by simp))
  · exact h'.withFill _ (.inl (by simp))

theorem fillCheckFailed (h : Keeps s t) : Keeps s t.fillCheckFailed := by
  unfold State.fillCheckFailed
  split
  · exact h
  · exact h.resetFill

/-! ### Transfer channels -/

theorem withdrawChan (h : Keeps s t) (n : ChanNo) : Keeps s (t.withdrawChan n) := by
  refine h.mapArbs _ (fun a ⟨hh, hc, hf, hs⟩ => ⟨hh, fun m r hr => ?_, hf, hs⟩) fun _ => rfl
  rw [Four.get_set] at hr
  split at hr
  · exact absurd hr (by simp)
  · exact hc m r hr

theorem markResidual (h : Keeps s t) (n : ChanNo) : Keeps s (t.markResidual n) := by
  have h1 := h.mapBanks (fun k => { k with op := k.op.map (disowned n) }) fun k _ _ hk =>
    hk.mapOp (disowned n) (fun o => by unfold disowned; split <;> rfl) k.holdTimer
  have h2 := h1.withStream { t.stream with
    beat := t.stream.beat.map fun x => if x.ch = n then { x with residual := true } else x }
  exact h2.setChan n { t.chan n with residual := (t.chan n).residual || t.chanOp n (fun _ => true) || t.beatOf n }
    fun hc => hc.same

theorem dropWork (h : Keeps s t) (n : ChanNo) : Keeps s (t.dropWork n) :=
  ((h.withdrawChan n).markResidual n).setChan n _ fun hc => ⟨fun _ => rfl, fun _ => rfl, hc.fault⟩

/-- After its work is dropped a channel has no pause reason and no abort in hand (R136). -/
theorem dropWork_chan (s : State) (n : ChanNo) :
    ((s.dropWork n).chan n).pauses = noPauses ∧ ((s.dropWork n).chan n).aborting = false := by
  simp [State.dropWork, State.setChan_chan]

theorem haltChan (h : Keeps s t) (n : ChanNo) (code : FaultCode) (w : Option WordAddr) :
    Keeps s (t.haltChan n code w) := by
  obtain ⟨hp, ha⟩ := dropWork_chan t n
  exact (((h.dropWork n).setChan n _ fun _ => by exact ⟨fun _ => hp, fun _ => ha, fun _ => rfl⟩).hand _).raise _

theorem failChan (h : Keeps s t) (n : ChanNo) (r : Request) (code : FaultCode) : Keeps s (t.failChan n r code) := by
  unfold State.failChan
  split <;> exact h.haltChan _ _ _

theorem placeChan (h : Keeps s t) (n : ChanNo) (r : Request) (hr : r.kind.channel = some n) :
    Keeps s (t.placeChan n r) := by
  unfold State.placeChan
  dsimp only
  split
  · refine h.setArb _ _ fun hb => ⟨?_, hb.streak⟩
    obtain ⟨hh, hc, hf, hs⟩ := hb.kinds
    refine ⟨hh, fun m q hq => ?_, hf, hs⟩
    rw [Four.get_set] at hq
    split at hq
    · rename_i hm
      rw [hm, ← Option.some.inj hq]
      exact hr
    · exact hc m q hq
  · exact h.failChan _ _ _

theorem enterLoading (h : Keeps s t) (n : ChanNo) : Keeps s (t.enterLoading n) := by
  have h' := h.setChan n { t.chan n with state := .loading } fun hc => hc.running
  unfold State.enterLoading
  dsimp only
  split
  · exact h'
  · exact h'.placeChan n _ rfl

/-- What a channel asks for next is a request of its own (R121). -/
theorem nextRequest_channel {s : State} {n : ChanNo} {w : Work} {r : Request} (hr : s.nextRequest n w = some r) :
    r.kind.channel = some n := by
  unfold State.nextRequest at hr
  dsimp only at hr
  split at hr
  · split at hr
    · cases hr; rfl
    · split at hr
      · cases hr; rfl
      · cases hr
  all_goals
    split at hr
    · cases hr; rfl
    · cases hr

theorem consider (h : Keeps s t) (n : ChanNo) : Keeps s (t.consider n) := by
  unfold State.consider
  dsimp only
  split
  · exact h
  · split
    · split
      · rename_i r hr
        exact h.placeChan n r (nextRequest_channel hr)
      · exact h
    · exact h

theorem stopChan (h : Keeps s t) (n : ChanNo) (why : StopReason) : Keeps s (t.stopChan n why) :=
  (h.setChan n _ fun _ => ⟨fun _ => rfl, fun _ => rfl, fun hf => absurd rfl hf⟩).raise _

theorem finishDescriptor (h : Keeps s t) (n : ChanNo) (w : Work) : Keeps s (t.finishDescriptor n w) := by
  have h1 := h.setChan n { t.chan n with done := (t.chan n).done + 1#16 } fun hc => hc.same
  unfold State.finishDescriptor
  dsimp only
  have h2 : Keeps s (if w.note = true then (t.setChan n { t.chan n with done := (t.chan n).done + 1#16 }).raise (.attn n)
      else t.setChan n { t.chan n with done := (t.chan n).done + 1#16 }) := by
    split
    · exact h1.raise _
    · exact h1
  split
  · exact h2.stopChan n _
  · split
    · exact h2.stopChan n _
    · exact (h2.setChan n _ fun hc => hc.same).enterLoading n

theorem endDescriptor (h : Keeps s t) (n : ChanNo) (w : Work) (outcome : DescOutcome) :
    Keeps s (t.endDescriptor n w outcome) := by
  have h' := h.setChan n { t.chan n with ended := some outcome } fun hc => hc.same
  unfold State.endDescriptor
  dsimp only
  split
  · exact h'.placeChan n _ rfl
  · exact h'.finishDescriptor n w

theorem pauseChan (h : Keeps s t) (n : ChanNo) : Keeps s (t.pauseChan n) :=
  h.setChan n _ fun hc => hc.running

theorem withdrawData (h : Keeps s t) (n : ChanNo) : Keeps s (t.withdrawData n) := by
  unfold State.withdrawData
  split
  · exact h.withdrawChan n
  · exact h

/-- A channel under way may be given a reason to pause (R134). -/
theorem addPause (h : Keeps s t) (n : ChanNo) (p : Pauses) (hn : ¬((t.chan n).state = .idle ∨ (t.chan n).state = .halted)) :
    Keeps s (t.addPause n p) := by
  have h' := h.setChan n { t.chan n with pauses := (t.chan n).pauses.union p } fun hc =>
    ⟨fun hs => absurd hs hn, hc.aborting, hc.fault⟩
  unfold State.addPause
  dsimp only
  split
  · split
    · exact (h'.withdrawData n).pauseChan n
    · exact h'.withdrawData n
  · exact h'

theorem removePause (h : Keeps s t) (n : ChanNo) (p : Pauses) : Keeps s (t.removePause n p) := by
  have h' := h.setChan n { t.chan n with pauses := (t.chan n).pauses.without p } fun hc =>
    ⟨fun hs => by simp [hc.pauses hs, Pauses.without, noPauses], hc.aborting, hc.fault⟩
  unfold State.removePause
  dsimp only
  split
  · split
    · split
      · exact (h'.setChan n _ fun hc => hc.running).consider n
      · exact h'.enterLoading n
    · exact h'.consider n
    all_goals exact h'
  · exact h'

theorem reportAbort (h : Keeps s t) (n : ChanNo) : Keeps s (t.reportAbort n) := by
  unfold State.reportAbort
  dsimp only
  split
  · exact h
  · have h' := h.setChan n { t.chan n with fifo := [], ended := some .aborted } fun hc => hc.same
    split
    · exact h'.placeChan n _ rfl
    · exact h'.stopChan n _

/-- A channel under way may be aborted (R140). -/
theorem abortChan (h : Keeps s t) (n : ChanNo) (hn : ¬((t.chan n).state = .idle ∨ (t.chan n).state = .halted)) :
    Keeps s (t.abortChan n) := by
  have h' := h.setChan n { t.chan n with aborting := true } fun hc => ⟨hc.pauses, fun hs => absurd hs hn, hc.fault⟩
  unfold State.abortChan
  dsimp only
  split
  · split
    · exact (h'.withdrawData n).reportAbort n
    · exact h'.withdrawData n
  · split
    · exact h'
    · exact (h'.withdrawChan n).stopChan n _

theorem resetChan (h : Keeps s t) (n : ChanNo) : Keeps s (t.resetChan n) := by
  obtain ⟨hp, ha⟩ := dropWork_chan t n
  exact (h.dropWork n).setChan n _ fun _ => by exact ⟨fun _ => hp, fun _ => ha, fun hf => absurd rfl hf⟩

theorem clearResidual (h : Keeps s t) (n : ChanNo) : Keeps s (t.clearResidual n) := by
  have h' := h.setChan n { t.chan n with residual := false } fun hc => hc.same
  unfold State.clearResidual
  dsimp only
  split
  · exact h'.placeChan n _ rfl
  · exact h'

theorem takeDescriptor (h : Keeps s t) (n : ChanNo) (w0 w1 w2 w3 : Word) : Keeps s (t.takeDescriptor n w0 w1 w2 w3) := by
  unfold State.takeDescriptor
  dsimp only
  split
  · split
    · exact h.haltChan _ _ _
    · split
      · exact h.setChan n _ fun hc => hc.running
      · exact (h.setChan n _ fun hc => hc.running).consider n
  · exact (h.setChan n _ fun hc => hc.running).raise _

theorem completeFetch (h : Keeps s t) (b : BankNo) (n : ChanNo) (o : Op) : Keeps s (t.completeFetch b n o) := by
  have h' := (h.checkBurst (.ch n) o.writesBack (burstAddrs o.addr o.words)).finishColumn b
  unfold State.completeFetch
  dsimp only
  split
  · exact h'
  · split
    · exact h'.stopChan n _
    · split
      · exact h'.takeDescriptor _ _ _ _ _
      · exact h'
      · exact h'.haltChan _ _ _

theorem completeRead (h : Keeps s t) (b : BankNo) (n : ChanNo) (o : Op) : Keeps s (t.completeRead b n o) := by
  have h' := (h.checkBurst (.ch n) o.writesBack (burstAddrs o.addr o.words)).finishColumn b
  unfold State.completeRead
  dsimp only
  split
  · exact h'
  · split
    · exact h'.haltChan _ _ _
    · exact (h'.setChan n _ fun hc => hc.same).consider n

theorem completeWrite (h : Keeps s t) (b : BankNo) (n : ChanNo) (o : Op) : Keeps s (t.completeWrite b n o) := by
  have h' := (h.setWords o.addr o.payload).finishColumn b
  unfold State.completeWrite
  dsimp only
  split
  · exact h'
  · split
    · exact h'
    · have hu := fun c hc => h'.setChan n c hc
      refine iteInduction (motive := (Keeps s ·)) (fun _ => hu _ fun hc => hc.same) fun _ =>
        iteInduction (motive := (Keeps s ·)) (fun _ => ?_) fun _ => ?_
      · exact (hu _ fun hc => hc.same).endDescriptor n _ _
      · exact (hu _ fun hc => hc.same).consider n

theorem completeWriteback (h : Keeps s t) (b : BankNo) (n : ChanNo) (o : Op) : Keeps s (t.completeWriteback b n o) := by
  have h' := (h.setWords o.addr o.payload).finishColumn b
  unfold State.completeWriteback
  dsimp only
  split
  · exact h'
  · split
    · split
      · exact h'.stopChan n _
      · exact h'.finishDescriptor n _
    · exact h'

end Keeps
end Sys2Proof.Machine
end

section
-- One thread at a time: the stack of each thread counts against the memory limit of the check.
set_option Elab.async false
/-! SUPPORT. Proofs/KeepsArbiter.lean: the host port, the scrubber, the banks that leave READY and the bank arbiter keep what Safety.lean
says. -/

namespace Sys2Proof.Machine
namespace Keeps

variable {s t : State}

/-! ### Host port -/

theorem failHead (h : Keeps s t) (code : FaultCode) : Keeps s (t.failHead code) := by
  unfold State.failHead
  split
  · exact h
  · rename_i e rest hq
    refine Keeps.hand (h.withHost { t.host with queue := rest } (.inr ?_)) _
    rw [hq]
    exact Nat.le_succ _

theorem dropHead (h : Keeps s t) : Keeps s t.dropHead := h.withHost _ (.inr (by simp))

/-- A request of the host port may be placed at any arbiter (R62). -/
theorem placeHost (h : Keeps s t) (b : BankNo) (r : Request)
    (hr : r.kind = .hostRead ∨ r.kind = .hostWrite ∨ r.kind = .hostMerge) :
    Keeps s (t.setArb b { t.arb b with host := some r }) := by
  refine h.setArb b _ fun hb => ⟨?_, hb.streak⟩
  obtain ⟨_, hc, hf, hs⟩ := hb.kinds
  exact ⟨by rintro q ⟨⟩; exact hr, hc, hf, hs⟩

theorem headRequest_kind (e : HostEntry) :
    (headRequest e).kind = .hostRead ∨ (headRequest e).kind = .hostWrite ∨ (headRequest e).kind = .hostMerge := by
  unfold headRequest
  dsimp only
  split <;> simp

theorem placeHeads (fuel : Nat) : ∀ {t : State}, Keeps s t → Keeps s (t.placeHeads fuel) := by
  induction fuel with
  | zero => exact fun h => h
  | succ fuel ih =>
    intro t h
    unfold State.placeHeads
    dsimp only
    split
    · exact h
    · split
      · exact h
      · split
        · exact ih (h.failHead _)
        · split
          · exact h
          · exact h.placeHost _ _ (headRequest_kind _)

theorem placeHead (h : Keeps s t) : Keeps s t.placeHead := placeHeads _ h

theorem readToArray (h : Keeps s t) (w : WordAddr) : Keeps s (t.readToArray w) := by
  unfold State.readToArray
  dsimp only
  split
  · exact (h.holdCycle (.readArray w)).placeHost _ _ (.inl rfl)
  · exact h.endCycle _

theorem startRead (h : Keeps s t) (w : WordAddr) : Keeps s (t.startRead w) := by
  unfold State.startRead
  split
  · exact h.readToArray w
  · split
    · exact h.endCycle _
    · exact h.holdCycle _

/-- A write is accepted into a queue with room (R102). -/
theorem acceptWrite (h : Keeps s t) (w : WordAddr) (lanes : BitVec 4) (data : Word)
    (hroom : t.host.queue.length < Config.hostQueueDepth) : Keeps s (t.acceptWrite w lanes data) := by
  unfold State.acceptWrite
  dsimp only
  split
  · have h' := h.withOverride { t.override with armed := t.override.armed && !(t.override.armed && lanes == 15#4) }
    refine (Keeps.endCycle (h'.withHost _ (.inl ?_)) _).placeHead
    simp only [Config.hostQueueDepth] at hroom
    simp
    omega
  · exact h.endCycle _

theorem startWrite (h : Keeps s t) (w : WordAddr) (lanes : BitVec 4) (data : Word) :
    Keeps s (t.startWrite w lanes data) := by
  unfold State.startWrite
  split
  · exact h.endCycle _
  · split
    · rename_i hroom
      exact h.acceptWrite w lanes data hroom
    · exact h.holdCycle _

theorem drainEnd (h : Keeps s t) : Keeps s t.drainEnd := by
  unfold State.drainEnd
  split
  · exact h.readToArray _
  · exact h

theorem heldWrite (h : Keeps s t) (hd : t.heldWriteDue = true) : Keeps s t.heldWrite := by
  unfold State.heldWrite
  split
  · rename_i w lanes data hc
    rw [State.heldWriteDue, hc] at hd
    exact h.acceptWrite w lanes data (of_decide_eq_true hd)
  · exact h

theorem completeHostRead (h : Keeps s t) (b : BankNo) (o : Op) : Keeps s (t.completeHostRead b o) := by
  have h' := (h.checkBurst .host o.writesBack (burstAddrs o.addr o.words)).finishColumn b
  unfold State.completeHostRead
  dsimp only
  split <;> exact h'.endCycle _

theorem completeHostWrite (h : Keeps s t) (b : BankNo) (o : Op) : Keeps s (t.completeHostWrite b o) :=
  ((h.setWords o.addr o.payload).finishColumn b).dropHead.placeHead

theorem completeMerge (h : Keeps s t) (b : BankNo) (o : Op) : Keeps s (t.completeMerge b o) := by
  unfold State.completeMerge
  split
  · exact h.finishColumn b
  · exact ((h.mergeWord _ _ _).finishColumn b).dropHead.placeHead

/-! ### Requests -/

theorem meet (h : Keeps s t) (u : State) : Keeps s (u.meet t) := by
  refine foldl (fun v b hv => ?_) _ h
  split
  · exact hv.setArb b _ fun hb => ⟨hb.kinds, hb.streak⟩
  · exact hv

/-! ### Scrubber -/

theorem findScrub_keeps {v : State} (h : Keeps s t) (hv : t.findScrub = some v) : Keeps s v := by
  have move : ∀ k, Keeps s (t.moveScrub k) := fun k => h.withScrub _ (by exact .inr (Nat.le_refl _))
  unfold State.findScrub at hv
  dsimp only at hv
  split at hv
  · exact Option.some.inj hv ▸ h
  · split at hv
    · exact Option.some.inj hv ▸ move _
    · split at hv
      · exact Option.some.inj hv ▸ (move _).withScrub _ (by exact .inr (Nat.le_refl _))
      · exact absurd hv (by simp)

theorem placeScrub (h : Keeps s t) : Keeps s t.placeScrub := by
  have h' := h.setArb t.scrub.bank { t.arb t.scrub.bank with
    scrub := some { kind := .scrubSegment, addr := scrubSegmentBase t.scrub.bank t.scrub.row t.scrub.segment,
                    words := Config.scrubSegmentWords } } fun hb =>
      ⟨by obtain ⟨hh, hc, hf, _⟩ := hb.kinds; exact ⟨hh, hc, hf, by rintro r ⟨⟩; rfl⟩, hb.streak⟩
  exact h'.withScrub { t.scrub with state := .wait } (.inr (Nat.le_refl _))

theorem searchScrub (h : Keeps s t) : Keeps s t.searchScrub := by
  unfold State.searchScrub
  split
  · split
    · rename_i v hv
      exact (h.findScrub_keeps hv).placeScrub
    · exact h
  · exact h

theorem withdrawScrub (h : Keeps s t) : Keeps s t.withdrawScrub :=
  h.mapArbs _ (fun _ ⟨hh, hc, hf, _⟩ => ⟨hh, hc, hf, by simp⟩) fun _ => rfl

theorem nextScrubRow (h : Keeps s t) : Keeps s t.nextScrubRow := by
  unfold State.nextScrubRow
  dsimp only
  split
  · have h' := h.withScrub { t.scrub with bank := t.scrub.bank + 1, row := 0#11, segment := 0#5 } (.inr (Nat.le_refl _))
    split
    · exact h'.withScrub _ (by exact .inr (Nat.le_refl _))
    · exact h'
  · exact h.withScrub _ (by exact .inr (Nat.le_refl _))

theorem nextScrubSegment (h : Keeps s t) : Keeps s t.nextScrubSegment := by
  unfold State.nextScrubSegment
  split
  · exact h.nextScrubRow
  · exact h.withScrub _ (by exact .inr (Nat.le_refl _))

theorem passOnScrub (h : Keeps s t) : Keeps s t.passOnScrub := (h.nextScrubRow.setScrub _).searchScrub

theorem tickScrub (h : Keeps s t) : Keeps s t.tickScrub :=
  Keeps.searchScrub (h.withScrub _ (by exact .inl (Nat.min_le_left _ _)))

theorem completeScrub (h : Keeps s t) (b : BankNo) (o : Op) : Keeps s (t.completeScrub b o) := by
  have h' := (h.checkBurst .scrub true (burstAddrs o.addr o.words)).finishColumn b
  unfold State.completeScrub
  dsimp only
  split
  · exact h'
  · split
    · exact h'.nextScrubSegment
    · exact (h'.nextScrubSegment.setScrub _).searchScrub

theorem holdScrub (h : Keeps s t) : Keeps s t.holdScrub := h.withdrawScrub.setScrub _

theorem releaseScrub (h : Keeps s t) : Keeps s t.releaseScrub := by
  unfold State.releaseScrub
  split
  · split
    · exact h.setScrub _
    · exact (h.setScrub _).searchScrub
  · exact h

theorem resetScrub (h : Keeps s t) : Keeps s t.resetScrub := by
  have h1 := h.withdrawScrub.mapBanks
    (fun k => { k with op := k.op.map fun o => if o.kind = .scrubSegment then { o with residual := true } else o })
    fun k _ _ hk => hk.mapOp _ (fun o => by split <;> rfl) k.holdTimer
  exact h1.withScrub { t.scrub with bank := 0, row := 0#11, segment := 0#5, credits := 0, state := .idle }
    (.inl (Nat.zero_le _))

/-! ### A bank leaves READY -/

/-- A request taken from an arbiter leaves requests of the right kinds. -/
theorem dropHost (h : Keeps s t) (b : BankNo) : Keeps s (t.setArb b { t.arb b with host := none }) :=
  h.setArb b _ fun hb => ⟨by obtain ⟨_, hc, hf, hs⟩ := hb.kinds; exact ⟨by simp, hc, hf, hs⟩, hb.streak⟩

theorem answerHost (h : Keeps s t) (b : BankNo) : Keeps s (t.answerHost b) := by
  unfold State.answerHost
  dsimp only
  split
  · exact h
  · split
    · exact ((h.dropHost b).endCycle _).placeHead
    · exact ((h.dropHost b).failHead _).placeHead

theorem answerChan (h : Keeps s t) (b : BankNo) (n : ChanNo) : Keeps s (t.answerChan b n) := by
  unfold State.answerChan
  split
  · exact h
  · exact h.failChan _ _ _

theorem answer (h : Keeps s t) (b : BankNo) (x : Answered) : Keeps s (t.answer b x) := by
  cases x with
  | host => exact h.answerHost b
  | ch n => exact h.answerChan b n

theorem answerPending (h : Keeps s t) (b : BankNo) : Keeps s (t.answerPending b) := by
  have h1 := h.forTogether (t.answeredAt b) (f := fun x u => u.answer b x) fun x u hu => hu.answer b x
  have h2 := h1.setArb b
    { (t.forTogether (t.answeredAt b) fun x u => u.answer b x).arb b with fill := none, scrub := none } fun hb =>
      ⟨by obtain ⟨hh, hc, _, _⟩ := hb.kinds; exact ⟨hh, hc, by simp, by simp⟩, hb.streak⟩
  unfold State.answerPending
  dsimp only
  refine Keeps.meet ?_ t
  split
  · exact h2.passOnScrub
  · exact h2

theorem goOff (h : Keeps s t) (b : BankNo) : Keeps s (t.goOff b) := by
  refine (Keeps.setBalance ((h.closeRow b).setBank b _ fun hb => ?_) b 0 0#8 (by decide) (by decide)).answerPending b
  exact hb.withBank (Nat.zero_le _) (by simp) (.inl (closeRow_openRow t b))

theorem beginOrder (h : Keeps s t) (b : BankNo) (o : RetentionOrder) : Keeps s (t.beginOrder b o) := by
  refine Keeps.answerPending ((h.startClosed b (orderKind o) 0#22 (by cases o <;> simp [orderKind])).setBank b _ fun hb => ?_) b
  exact hb.withBank hb.settle id (.inl (startClosed_openRow t b _ _))

/-! ### Arbiter -/

theorem takeRequest (h : Keeps s t) (b : BankNo) (r : Requester) : Keeps s (t.takeRequest b r) := by
  cases r with
  | refresh => exact h
  | host => exact h.dropHost b
  | ch n =>
    refine h.setArb b _ fun hb => ⟨?_, hb.streak⟩
    obtain ⟨hh, hc, hf, hs⟩ := hb.kinds
    refine ⟨hh, fun m q hq => ?_, hf, hs⟩
    rw [Four.get_set] at hq
    split at hq
    · exact absurd hq (by simp)
    · exact hc m q hq
  | fill =>
    refine h.setArb b _ fun hb => ⟨?_, hb.streak⟩
    obtain ⟨hh, hc, _, hs⟩ := hb.kinds
    exact ⟨hh, hc, by simp, hs⟩
  | scrub =>
    refine h.setArb b _ fun hb => ⟨?_, hb.streak⟩
    obtain ⟨hh, hc, hf, _⟩ := hb.kinds
    exact ⟨hh, hc, hf, by simp⟩

theorem countGrant (h : Keeps s t) (b : BankNo) (r : Requester) (how : Picked) (hit : Bool) :
    Keeps s (t.countGrant b r how hit) := by
  have hs : (if hit = true then min Config.streakCap ((t.arb b).streak + 1) else 0) ≤ 16 := by
    split
    · exact Nat.min_le_left _ _
    · exact Nat.zero_le _
  cases how <;> exact h.setArb b _ fun hb => ⟨hb.kinds, hs⟩

theorem parted (h : Keeps s t) (b : BankNo) : Keeps s (t.parted b) := by
  unfold State.parted
  split
  · refine Keeps.andFree (h.setArb b { t.arb b with met := false } fun hb => ⟨hb.kinds, hb.streak⟩) fun p hp => ?_
    cases p with
    | ties => simp [freeParts] at hp
    | _ => rfl
  · exact h

end Keeps

/-! ### What a grant decision may decide -/

/-- A winner is a requester whose request is pending; REFRESH wins only with a request. -/
theorem State.refreshRequest_of_winner {s : State} {b : BankNo} {how : Picked} (h : s.winner b = some (.refresh, how)) :
    s.refreshRequest b ≠ .none := by
  intro hn
  have hnormal : ∀ p, requesterAt p = .refresh → s.normalPending b p = false ∧ s.normalHit b p = false := fun p hp => by
    simp [State.normalPending, State.normalHit, hp, hn, State.pendingAt]
  unfold State.winner at h
  dsimp only at h
  split at h
  · obtain ⟨r, hr, he⟩ := Option.map_eq_some_iff.1 h
    have hm : r ∈ s.candidates b := List.mem_of_mem_drop (List.mem_of_mem_head? hr)
    cases he
    simp [State.candidates, otherRequesters, State.refreshAlone, hn, State.pendingAt] at hm
  · unfold State.orderWinner at h
    rw [if_neg (by simp [hn])] at h
    split at h
    · cases h
    · split at h
      · rename_i p how' hw
        have hp : requesterAt p = .refresh := congrArg Prod.fst (Option.some.inj h)
        obtain ⟨h1, h2⟩ := hnormal p hp
        unfold State.normalWinner at hw
        split at hw
        · obtain ⟨q, hq, he⟩ := Option.map_eq_some_iff.1 hw
          cases he
          exact absurd ((List.find?_some hq).symm.trans h2) (by simp)
        · obtain ⟨q, hq, he⟩ := Option.map_eq_some_iff.1 hw
          cases he
          exact absurd ((List.find?_some hq).symm.trans h1) (by simp)
      · split at h
        · cases h
        · simp [hn] at h

/-- A grant decision is made at a READY bank only (R64). -/
theorem State.ready_of_grantDue {s : State} {b : BankNo} (h : s.grantDue b = true) : s.isReady b = true := by
  simp only [State.grantDue, State.isFree, Bool.and_eq_true] at h
  obtain ⟨⟨⟨⟨⟨hready, _⟩, _⟩, _⟩, _⟩, _⟩ := h
  exact hready

/-- A REFRESH request stands only above −4 (R51, R52). -/
theorem State.balance_of_refreshRequest {s : State} {b : BankNo} (h : s.refreshRequest b ≠ .none) :
    -3 ≤ (s.account b).balance := by
  by_contra hlow
  apply h
  have : (s.account b).balance ≤ -4 := by omega
  simp [State.refreshRequest, State.urgency, urgencyOf, this]

/-- The request of a requester other than REFRESH is for a column operation (R62). -/
theorem Arbiter.kindsOk.isColumn {s : State} {b : BankNo} {r : Requester} {q : Request} (h : (s.arb b).kindsOk)
    (hq : s.pendingAt b r = some q) : q.kind.isColumn = true := by
  obtain ⟨hh, hc, hf, hs⟩ := h
  cases r with
  | refresh => exact absurd hq (by simp [State.pendingAt])
  | host => rcases hh q hq with hk | hk | hk <;> simp [hk, OpKind.isColumn]
  | ch n =>
    have := hc n q hq
    cases hk : q.kind <;> simp_all [OpKind.channel, OpKind.isColumn]
  | fill => simp [hf q hq, OpKind.isColumn]
  | scrub => simp [hs q hq, OpKind.isColumn]

namespace Keeps
variable {s t : State}

/-- The operation of a request pending at a READY bank begins there (R71). -/
theorem beginColumn (h : Keeps s t) (b : BankNo) (r : Requester) (how : Picked) (hit : Bool) (q : Request)
    (payload : List Stored) (hq : t.pendingAt b r = some q) (hready : t.isReady b = true) :
    Keeps s ((((t.parted b).takeRequest b r).countGrant b r how hit).startColumn b q.kind q.addr q.words payload) := by
  have hu : unchangedBut [.arb b, .ties] t (((t.parted b).takeRequest b r).countGrant b r how hit) :=
    ((t.parted_frame b).andThen (State.takeRequest_frame _ b r) (by simp)).andThen
      (State.countGrant_frame _ b r how hit) (by simp)
  have hk := (((refl t).parted b).takeRequest b r).countGrant b r how hit
  refine h.andBank (b := b) ((hu.mono (by simp)).andThen (State.setBank_frame _ b _) (by simp)) fun hb => ?_
  generalize ((t.parted b).takeRequest b r).countGrant b r how hit = u at hu hk
  have hcol := hb.kinds.isColumn hq
  have hub := bankOk_iff.1 (hk.bank b hb)
  have hbank : u.bank b = t.bank b := hu (.bank b) (by simp)
  rw [bankOk_iff]
  unfold State.startColumn
  rw [State.setBank_bank, if_pos rfl, State.setBank_arb, State.setBank_account]
  refine { hub with refreshing := ?_, openRow := ?_, closed := ?_, settle := hub.settle }
  · intro hr
    simp only [State.newOp, Option.any_some, beq_iff_eq] at hr
    exact absurd (hr ▸ hcol) (by decide)
  · intro _
    simpa [State.isReady, hbank] using hready
  · rintro o ⟨⟩ hc
    exact absurd (hc.symm.trans hcol) (by simp)

theorem granted (h : Keeps s t) (r : Requester) (q : Request) : Keeps s (t.granted r q) := by
  unfold State.granted
  split
  · split
    · exact h.placeHead
    · exact h
  · rename_i n
    split
    · exact (h.setChan n _ fun hc => hc.same).consider n
    · exact (h.setChan n _ fun hc => hc.same).consider n
    · exact h.consider n
  · exact h.withFill _ (by exact .inr (Nat.le_refl _))
  · exact h.withScrub _ (by exact .inr (Nat.sub_le _ _))
  · exact h

theorem lapsed (h : Keeps s t) (r : Requester) (q : Request) : Keeps s (t.lapsed r q) := by
  unfold State.lapsed
  split
  · split
    · exact (h.endCycle _).placeHead
    · exact (h.failHead _).placeHead
  · exact h.failChan _ _ _
  · exact h.fillCheckFailed
  · exact h.passOnScrub
  · exact h

theorem beginRefresh (h : Keeps s t) (b : BankNo) (how : Picked) (hb : -3 ≤ (t.account b).balance) :
    Keeps s (t.beginRefresh b how) := by
  refine (h.countGrant b .refresh how false).startClosed b .refresh _ fun _ => ?_
  rwa [State.countGrant_frame t b .refresh how false (.account b) (by simp)]

theorem grants (b : BankNo) (fuel : Nat) : ∀ {t : State}, Keeps s t → Keeps s (t.grants b fuel) := by
  induction fuel with
  | zero => exact fun h => h
  | succ fuel ih =>
    intro t h
    unfold State.grants
    split
    · rename_i hd
      have hready : t.isReady b = true := State.ready_of_grantDue hd
      split
      · exact h
      · rename_i how hw
        refine (h.parted b).beginRefresh b how ?_
        rw [State.parted_frame t b (.account b) (by simp)]
        exact State.balance_of_refreshRequest (State.refreshRequest_of_winner hw)
      · split
        · exact h
        · rename_i q hq
          split
          · exact (h.beginColumn b _ _ _ q _ hq hready).granted _ _
          · exact ih (((h.parted b).takeRequest b _).lapsed _ _)
    · exact h

theorem grant (h : Keeps s t) (b : BankNo) : Keeps s (t.grant b) := (grants b 16 h).meet t

/-! ### Stream port -/

theorem decideBeat (h : Keeps s t) : Keeps s t.decideBeat := by
  unfold State.decideBeat
  split
  · exact h
  · split
    · exact h.withStream _
    · exact h

theorem endInBeat (h : Keeps s t) (n : ChanNo) (sd : Word) (slast : Bool) : Keeps s (t.endInBeat n sd slast) :=
  (h.setChan n _ fun hc => hc.same).consider n

theorem endOutBeat (h : Keeps s t) (n : ChanNo) (slast : Bool) : Keeps s (t.endOutBeat n slast) := by
  have h' := h.setChan n { t.chan n with fifo := (t.chan n).fifo.drop 1, remaining := (t.chan n).remaining - 1 } fun hc => hc.same
  unfold State.endOutBeat
  dsimp only
  split
  · exact h'
  · split
    · exact h'
    · split
      · refine Keeps.endDescriptor (((h'.setChan n _ fun hc => ?_).withdrawData n).markResidual n) n _ _
        rw [State.setChan_chan, if_pos rfl] at hc
        exact hc.same
      · split
        · exact h'.endDescriptor n _ _
        · exact h'.consider n

theorem take (h : Keeps s t) (x : Beat) (sd : Word) (slast : Bool) : Keeps s (t.take x sd slast) := by
  have h' := (h.setSrq x.ch false).withStream { (t.setSrq x.ch false).stream with beat := none }
  unfold State.take
  dsimp only
  split
  · exact h'.decideBeat
  · split
    · exact (h'.endInBeat _ _ _).decideBeat
    · exact (h'.endOutBeat _ _).decideBeat

end Keeps
end Sys2Proof.Machine
end

section
-- One thread at a time: the stack of each thread counts against the memory limit of the check.
set_option Elab.async false
/-! SUPPORT. Proofs/KeepsStep.lean: the retention controller, the commands, the completions, the own steps and the timers keep what
Safety.lean says, and so does every step of the machine. -/

namespace Sys2Proof.Machine
namespace Keeps

variable {s t : State}

/-! ### Retention controller -/

theorem holdChan (h : Keeps s t) (n : ChanNo) : Keeps s (t.holdChan n) := by
  unfold State.holdChan
  split
  · rename_i hc
    exact h.addPause n _ (by simp [hc])
  · rename_i hc
    exact h.addPause n _ (by simp [hc])
  · rename_i hc
    exact h.addPause n _ (by simp [hc])
  all_goals exact h

theorem enterQuiescing (h : Keeps s t) : Keeps s t.enterQuiescing :=
  (foldl (fun _ n hu => hu.holdChan n) _ (h.setRetention _)).holdFill.holdScrub

theorem releaseAll (h : Keeps s t) : Keeps s t.releaseAll := by
  unfold State.releaseAll
  dsimp only
  refine (((Keeps.forTogether ?_ _ fun n u hu => hu.removePause n _).releaseFill).releaseScrub).decideBeat
  exact foldl (fun _ n hu => hu.removePause n _) _ h

theorem giveOrder (h : Keeps s t) (b : BankNo) (o : Option RetentionOrder) : Keeps s (t.giveOrder b o) := by
  unfold State.giveOrder
  split
  · exact h
  · split
    · exact h.beginOrder b _
    · exact h.setBank b _ fun hb => hb.withBank hb.settle id (.inr ⟨rfl, rfl, fun o ho => ⟨o, ho, rfl⟩⟩)

/-- A count over the four banks is at most 4. -/
theorem countP_indices_le (p : BankNo → Bool) : Four.indices.countP p ≤ 4 := List.countP_le_length

theorem commit (h : Keeps s t) : Keeps s t.commit := by
  unfold State.commit
  dsimp only
  refine Keeps.forTogether (foldl (fun u b hu => hu.giveOrder b _) _ ?_) _ fun b u hu => hu.giveOrder b _
  exact h.withRetention _ (by exact .inl (countP_indices_le _))

theorem completeQuiesce (h : Keeps s t) : Keeps s t.completeQuiesce := by
  unfold State.completeQuiesce
  split
  · exact Keeps.meet (((h.setRetention _).releaseAll).raise _) t
  · exact h.commit

theorem wakeBank (h : Keeps s t) (b : BankNo) : Keeps s (t.wakeBank b) := by
  unfold State.wakeBank
  split
  · exact (h.startClosed b .selfRefreshExit 0#22 (by simp)).setBank b _ fun hb =>
      hb.withBank hb.settle id (.inl (startClosed_openRow t b _ _))
  · rename_i hst
    refine Keeps.setBalance (h.setBank b _ fun hb => ?_) b 0 0#8 (by decide) (by decide)
    refine hb.withBank (Nat.zero_le _) (by simp) (.inl ?_)
    by_contra hrow
    exact absurd ((hb.openRow hrow).symm.trans hst) (by decide)
  all_goals exact h

theorem enterWaking (h : Keeps s t) : Keeps s t.enterWaking :=
  foldl (fun _ b hu => hu.wakeBank b) _
    (h.withRetention _ (by exact .inl (countP_indices_le fun b => (t.bank b).state == .retained)))

theorem settle (h : Keeps s t) : Keeps s t.settle := by
  unfold State.settle
  dsimp only
  split
  · exact h.setRetention _
  · exact (h.setRetention _).enterWaking

theorem completeWaking (h : Keeps s t) : Keeps s t.completeWaking := by
  have h' := ((h.setRetention .normal).releaseAll).raise .retExit
  unfold State.completeWaking
  dsimp only
  refine Keeps.meet ?_ t
  split
  · exact h'.enterQuiescing
  · exact h'

theorem retReqRises (h : Keeps s t) : Keeps s t.retReqRises := by
  have h' := h.withRetention { t.retention with req := true } (.inr (Nat.le_refl _))
  unfold State.retReqRises
  dsimp only
  split
  · exact h'.enterQuiescing
  all_goals exact h'

theorem retReqFalls (h : Keeps s t) : Keeps s t.retReqFalls := by
  have h' := h.withRetention { t.retention with req := false } (.inr (Nat.le_refl _))
  unfold State.retReqFalls
  dsimp only
  split
  · exact Keeps.meet (h'.setRetention _).releaseAll t
  · exact h'.setRetention _
  · exact h'.enterWaking
  all_goals exact h'

/-! ### Commands -/

/-- What a command's owner answers keeps what is said, when it takes the command. -/
def KeptBy (s : State) (v : Verdict) : Prop := ∀ u, v = .ok u → Keeps s u

theorem keptBy_error (r : Reason) : KeptBy s (.error r) := fun _ h => nomatch h

theorem keptBy_ok (h : Keeps s t) : KeptBy s (.ok t) := fun _ he => Except.ok.inj he ▸ h

theorem bankOn (h : Keeps s t) : KeptBy s t.bankOn := by
  unfold State.bankOn
  split
  · exact keptBy_error _
  · rename_i b _
    refine iteInduction (fun _ => keptBy_error _) fun _ => iteInduction (fun _ => keptBy_error _) fun _ =>
      iteInduction (fun _ => keptBy_error _) fun hoff => keptBy_ok ?_
    refine Keeps.setBalance (h.setBank b _ fun hb => ?_) b 0 0#8 (by decide) (by decide)
    refine hb.withBank (Nat.zero_le _) id (.inl ?_)
    by_contra hrow
    exact absurd ((hb.openRow hrow).symm.trans (not_not.1 hoff)) (by decide)

theorem bankOffEffect (h : Keeps s t) (b : BankNo) : Keeps s (t.bankOffEffect b) := by
  have h' := h.discardGroups (runGroups (b.val * 256) 256) [.lapsed]
  unfold State.bankOffEffect
  dsimp only
  split
  · refine Keeps.applySkip (h'.setBank b _ fun hb => ?_) b
    exact hb.withBank hb.settle id (.inr ⟨rfl, rfl, fun o ho => ⟨o, ho, rfl⟩⟩)
  · exact h'.goOff b

theorem bankOff (h : Keeps s t) : KeptBy s t.bankOff := by
  unfold State.bankOff
  split
  · exact keptBy_error _
  · exact iteInduction (fun _ => keptBy_error _) fun _ => iteInduction (fun _ => keptBy_error _) fun _ =>
      iteInduction (fun _ => keptBy_error _) fun _ => keptBy_ok (h.bankOffEffect _)

theorem fillCommand (h : Keeps s t) : KeptBy s t.fillCommand := by
  refine iteInduction (fun _ => keptBy_error _) fun _ => iteInduction (fun _ => keptBy_error _) fun _ =>
    iteInduction (fun _ => keptBy_error _) fun _ => iteInduction (fun _ => keptBy_error _) fun _ =>
    iteInduction (fun _ => keptBy_error _) fun hroom => keptBy_ok ?_
  have hq : (t.markGroups (runGroups (argFirst t.arg) (argCount t.arg)) .fillPending).fill = t.fill :=
    State.markGroups_frame t _ _ .fill (by simp)
  refine (h.markGroups _ _).withFill _ (.inl ?_)
  simp only [Config.fillQueueDepth, Nat.not_le] at hroom
  simp only [hq, List.length_append, List.length_singleton]
  omega

theorem releaseCommand (h : Keeps s t) : KeptBy s t.releaseCommand :=
  iteInduction (fun _ => keptBy_error _) fun _ => iteInduction (fun _ => keptBy_error _) fun _ =>
    iteInduction (fun _ => keptBy_error _) fun _ => keptBy_ok (h.discardGroups _ _).applySkips

theorem withStatus (h : Keeps s t) (x : CmdStatus) : Keeps s { t with cmdStatus := x } := by
  refine h.andFree fun p hp => ?_
  cases p with
  | cmdStatus => simp [freeParts] at hp
  | _ => rfl

theorem withCommand (h : Keeps s t) (x : Word) : Keeps s { t with command := x } := by
  refine h.andFree fun p hp => ?_
  cases p with
  | command => simp [freeParts] at hp
  | _ => rfl

theorem queryCommand (h : Keeps s t) : KeptBy s t.queryCommand :=
  iteInduction (fun _ => keptBy_error _) fun _ => keptBy_ok (h.withStatus _)

theorem logPopCommand (h : Keeps s t) : KeptBy s t.logPopCommand := by
  unfold State.logPopCommand
  split
  · exact keptBy_error _
  · rename_i r rest hl
    refine keptBy_ok (h.andLog ((t.withLog_frame _).mono (by simp)) fun hk => ?_)
    obtain ⟨hlen, hover, hrep⟩ := hk
    rw [hl] at hlen hrep
    exact ⟨Nat.le_of_succ_le hlen, hover, fun x hx => hrep x (List.mem_cons_of_mem _ hx)⟩

theorem chStartCommand (h : Keeps s t) (n : ChanNo) : KeptBy s (t.chStartCommand n) := by
  have start : ∀ d, (t.chan n).aborting ≠ true → Keeps s (t.startChan n d) := fun d ha =>
    Keeps.enterLoading (h.setChan n _ fun hc => by exact ⟨hc.pauses, hc.aborting, fun hf => absurd rfl hf⟩) n
  unfold State.chStartCommand
  split
  · exact keptBy_error _
  · refine iteInduction (fun _ => keptBy_error _) fun _ => ?_
    split
    · exact iteInduction (fun _ => keptBy_error _) fun ha => keptBy_ok (start _ ha)
    · exact iteInduction (fun _ => keptBy_error _) fun ha => keptBy_ok (start _ ha)
    all_goals exact keptBy_error _

/-- A channel under way is neither IDLE nor HALTED. -/
theorem not_stopped_of_underWay {c : Channel} (h : underWay c = true) : ¬(c.state = .idle ∨ c.state = .halted) := by
  rintro (hs | hs) <;> simp [underWay, hs] at h

theorem chPauseCommand (h : Keeps s t) (n : ChanNo) : KeptBy s (t.chPauseCommand n) :=
  iteInduction (fun hw => keptBy_ok (h.addPause n _ (not_stopped_of_underWay hw))) fun _ => keptBy_error _

theorem chResumeCommand (h : Keeps s t) (n : ChanNo) : KeptBy s (t.chResumeCommand n) :=
  iteInduction (fun _ => keptBy_error _) fun _ =>
    iteInduction (fun _ => keptBy_ok (h.removePause n _).decideBeat) fun _ => keptBy_error _

theorem chAbortCommand (h : Keeps s t) (n : ChanNo) : KeptBy s (t.chAbortCommand n) :=
  iteInduction (fun hw => keptBy_ok (h.abortChan n (not_stopped_of_underWay hw))) fun _ => keptBy_error _

theorem clearReports (h : Keeps s t) : Keeps s t.clearReports := by
  refine h.andLog (fun p hp => ?_) fun _ => ⟨Nat.zero_le _, Nat.zero_le _, by simp [State.clearReports]⟩
  cases p with
  | log | events => simp [freeParts] at hp
  | _ => rfl

theorem softResetEffect (h : Keeps s t) : Keeps s t.softResetEffect := by
  have h' := (h.resetFill.resetScrub).withOverride { t.resetFill.resetScrub.override with armed := false }
  exact (foldl (fun _ n hu => hu.resetChan n) _ h').clearReports.applySkips

theorem softResetCommand (h : Keeps s t) : KeptBy s t.softResetCommand :=
  iteInduction (fun _ => keptBy_error _) fun _ => keptBy_ok h.softResetEffect

theorem runCommand (h : Keeps s t) : KeptBy s t.runCommand := by
  unfold State.runCommand
  dsimp only
  split
  · exact h.bankOn
  · exact h.bankOff
  · exact h.fillCommand
  · exact h.releaseCommand
  · exact h.queryCommand
  · exact h.logPopCommand
  · exact h.chStartCommand _
  · exact h.chPauseCommand _
  · exact h.chResumeCommand _
  · exact h.chAbortCommand _
  · exact keptBy_ok (h.resetChan _)
  · exact h.softResetCommand
  · exact keptBy_error _

theorem concludeCommand (h : Keeps s t) (v : Verdict) (hv : KeptBy s v) : Keeps s (t.concludeCommand v) := by
  unfold State.concludeCommand
  split
  · exact (Keeps.endCycle (h.withStatus _) _).raise _
  · rename_i u
    exact Keeps.endCycle ((hv u rfl).withStatus _) _

theorem takeCommand (h : Keeps s t) : Keeps s t.takeCommand :=
  (h.withStatus _).concludeCommand _ (h.withStatus _).runCommand

theorem issue (h : Keeps s t) (w : Word) : Keeps s (t.issue w) := by
  unfold State.issue
  dsimp only
  split
  · exact (h.withCommand w).takeCommand
  · exact (h.withCommand w).holdCycle _

/-! ### Completions -/

theorem onOp (h : Keeps s t) (b : BankNo) (p : OpKind → Bool) {f : Op → State}
    (hf : ∀ o, (t.bank b).op = some o → p o.kind = true → Keeps s (f o)) : Keeps s (t.onOp b p f) := by
  unfold State.onOp
  split
  · split
    · exact hf _ ‹_› ‹_›
    · exact h
  · exact h

theorem fetchCompletes (h : Keeps s t) (b : BankNo) : Keeps s (t.fetchCompletes b) := by
  unfold State.fetchCompletes
  split
  · split
    · exact (h.completeFetch _ _ _).decideBeat
    · exact h
  · exact h

theorem channelReadCompletes (h : Keeps s t) (b : BankNo) : Keeps s (t.channelReadCompletes b) := by
  unfold State.channelReadCompletes
  split
  · split
    · exact (h.completeRead _ _ _).decideBeat
    · exact h
  · exact h

theorem channelWriteCompletes (h : Keeps s t) (b : BankNo) : Keeps s (t.channelWriteCompletes b) := by
  unfold State.channelWriteCompletes
  split
  · split
    · exact (h.completeWrite _ _ _).decideBeat
    · exact h
  · exact h

theorem writebackCompletes (h : Keeps s t) (b : BankNo) : Keeps s (t.writebackCompletes b) := by
  unfold State.writebackCompletes
  split
  · split
    · exact h.completeWriteback _ _ _
    · exact h
  · exact h

theorem hostReadCompletes (h : Keeps s t) (b : BankNo) : Keeps s (t.hostReadCompletes b) :=
  h.onOp b _ fun _ _ _ => h.completeHostRead b _

theorem hostWriteCompletes (h : Keeps s t) (b : BankNo) : Keeps s (t.hostWriteCompletes b) :=
  h.onOp b _ fun _ _ _ => h.completeHostWrite b _

theorem mergeCompletes (h : Keeps s t) (b : BankNo) : Keeps s (t.mergeCompletes b) :=
  h.onOp b _ fun _ _ _ => h.completeMerge b _

theorem fillSegmentCompletes (h : Keeps s t) (b : BankNo) : Keeps s (t.fillSegmentCompletes b) :=
  h.onOp b _ fun _ _ _ => h.completeFill b _

theorem scrubSegmentCompletes (h : Keeps s t) (b : BankNo) : Keeps s (t.scrubSegmentCompletes b) :=
  h.onOp b _ fun _ _ _ => h.completeScrub b _

/-- A REFRESH that completes lowers the balance by 1: it was above −4 all the while (R54). -/
theorem settleRefresh (h : Keeps s t) (b : BankNo) (hr : t.refreshing b = true) :
    Keeps s ((t.clearOp b).settleOne b (-1)) := by
  have hu : unchangedBut [.bank b, .account b] t ((t.clearOp b).settleOne b (-1)) :=
    ((t.setBank_frame b _).mono (by simp)).andThen (State.setAccount_frame _ b _) (by simp)
  refine h.andBank (b := b) (hu.mono (by simp)) fun hb => ?_
  have hlow := hb.refreshing hr
  have hhigh := hb.high
  rw [bankOk_iff] at hb ⊢
  rw [State.settleOne, State.setAccount_bank, State.setAccount_arb, State.setAccount_account, if_pos rfl, State.clearOp,
    State.setBank_bank, if_pos rfl, State.setBank_arb, State.setBank_account]
  refine (hb.withBank (k' := { t.bank b with op := none }) hb.settle (by simp) (.inr ⟨rfl, rfl, by simp⟩)).withAccount ?_ ?_ ?_
  · simp only
    omega
  · simp only
    omega
  · simp

theorem refreshCompletes (h : Keeps s t) (b : BankNo) : Keeps s (t.refreshCompletes b) := by
  refine h.onOp b _ fun o ho hk => ?_
  split
  · exact (h.clearOp b).setBalance b 0 0#8 (by decide) (by decide)
  · exact (h.settleRefresh b (by simpa [State.refreshing, ho] using hk)).applySkip b

theorem closeCompletes (h : Keeps s t) (b : BankNo) : Keeps s (t.closeCompletes b) :=
  h.onOp b _ fun _ _ _ => h.clearOp b

theorem comeUp (h : Keeps s t) (b : BankNo) (balance : Int) (cursor : BitVec 8) (hl : -3 ≤ balance) (hh : balance ≤ 8) :
    Keeps s (t.comeUp b balance cursor) := by
  refine Keeps.applySkip (Keeps.setBalance (Keeps.setArb (h.setBank b _ fun hb => ?_) b _ fun hb => ?_) b _ _ hl hh) b
  · exact hb.withBank (Nat.zero_le _) (by simp) (.inl rfl)
  · exact ⟨hb.kinds, Nat.zero_le _⟩

theorem wakeCompletes (h : Keeps s t) (b : BankNo) : Keeps s (t.wakeCompletes b) :=
  h.onOp b _ fun _ _ _ => (h.comeUp b 0 0#8 (by decide) (by decide)).raise _

theorem exitCompletes (h : Keeps s t) (b : BankNo) : Keeps s (t.exitCompletes b) :=
  h.onOp b _ fun _ _ _ => (h.comeUp b 4 _ (by decide) (by decide)).reportSettled

/-- A bank whose ENTRY or POWER-DOWN completes has no row open: that operation closed it (R11). -/
theorem endClosed (h : Keeps s t) (b : BankNo) (x : BankState) {o : Op} (ho : (t.bank b).op = some o)
    (hk : o.kind.isColumn = false) : Keeps s (t.setBank b { t.bank b with state := x, op := none }) :=
  h.setBank b _ fun hb => hb.withBank hb.settle (by simp) (.inl (hb.closed o ho hk))

theorem entryCompletes (h : Keeps s t) (b : BankNo) : Keeps s (t.entryCompletes b) :=
  h.onOp b _ fun o ho hk => (h.endClosed b .retained ho (by rw [eq_of_beq hk]; rfl)).reportSettled

theorem powerDownCompletes (h : Keeps s t) (b : BankNo) : Keeps s (t.powerDownCompletes b) :=
  h.onOp b _ fun o ho hk => (((h.endClosed b .dormant ho (by rw [eq_of_beq hk]; rfl)).setBalance b 0 _ (by decide)
    (by decide)).loseContents b).reportSettled

theorem opCompletes (h : Keeps s t) (b : BankNo) : Keeps s (t.opCompletes b) := by
  unfold State.opCompletes
  split
  · exact h
  · split
    · exact h.hostReadCompletes b
    · exact h.hostWriteCompletes b
    · exact h.mergeCompletes b
    · exact h.fetchCompletes b
    · exact h.channelReadCompletes b
    · exact h.channelWriteCompletes b
    · exact h.writebackCompletes b
    · exact h.fillSegmentCompletes b
    · exact h.scrubSegmentCompletes b
    · exact h.refreshCompletes b
    · exact h.closeCompletes b
    · exact h.wakeCompletes b
    · exact h.entryCompletes b
    · exact h.powerDownCompletes b
    · exact h.exitCompletes b

/-! ### Own steps -/

theorem switchOff (h : Keeps s t) (b : BankNo) : Keeps s (t.switchOff b) := by
  unfold State.switchOff
  dsimp only
  split
  · exact (h.goOff b).reportSettled
  · exact h.goOff b

theorem startOrder (h : Keeps s t) (b : BankNo) : Keeps s (t.startOrder b) := by
  unfold State.startOrder
  split
  · exact h.beginOrder b _
  · exact h

theorem ownStep (h : Keeps s t) (o : OwnStep) (hd : t.ownDue o = true) : Keeps s (t.ownStep o) := by
  cases o with
  | deferredSwitchOff b => exact h.switchOff b
  | retentionOrderStart b => exact h.startOrder b
  | wakeStart b => exact h.startClosed b .wake 0#22 (by simp)
  | readDrainEnd => exact h.drainEnd
  | heldWriteAccept => exact h.heldWrite (Bool.and_eq_true_iff.1 hd).2
  | abortReport n => exact h.reportAbort n
  | channelPauseTakesEffect n => exact h.pauseChan n
  | residualClear n => exact h.clearResidual n
  | fillEngineTakeUp => exact h.takeUp
  | bankGrant b => exact h.grant b
  | commandBarrierEnd => exact h.takeCommand
  | quiesceComplete => exact h.completeQuiesce
  | retentionSettled => exact h.settle
  | wakingComplete => exact h.completeWaking

theorem ownIfDue (h : Keeps s t) (o : OwnStep) : Keeps s (t.ownIfDue o) := by
  unfold State.ownIfDue
  split
  · exact h.ownStep o ‹_›
  · exact h

theorem settleWith (fuel : Nat) : ∀ {t : State}, Keeps s t → Keeps s (t.settleWith fuel) := by
  induction fuel with
  | zero => exact fun h => h
  | succ fuel ih =>
    intro t h
    unfold State.settleWith
    split
    · exact h
    · rename_i o ho
      exact ih (h.ownStep o (List.find?_some ho))

theorem settled (h : Keeps s t) : Keeps s t.settled := settleWith 128 h

theorem happen (h : Keeps s t) {f : State → State} (hf : ∀ u, Keeps s u → Keeps s (f u)) : Keeps s (t.happen f) := by
  unfold State.happen
  split
  · exact h
  · exact hf _ h.settled

theorem busCycle (h : Keeps s t) {f : State → State} (hf : ∀ u, Keeps s u → Keeps s (f u)) : Keeps s (t.busCycle f) :=
  h.happen fun u hu => by
    split
    · exact hf u hu
    · exact hu

/-! ### Reset and timers -/

theorem pinReset (h : Keeps s t) : Keeps s t.pinReset := by
  have law : BankLaw resetBank resetArbiter { balance := 0, cursor := 0#8 } := by
    refine ⟨by decide, by decide, by decide, fun hn => absurd rfl hn, by simp [resetBank], ?_, by decide, by decide⟩
    refine ⟨by simp [resetArbiter], fun n r hr => ?_, by simp [resetArbiter], by simp [resetArbiter]⟩
    exact absurd hr (by simp [resetArbiter])
  refine h.trans
    { bank := fun b _ => ?_
      ranges := fun _ => by constructor <;> simp [State.pinReset, State.reset, resetConfig, resetTiming]
      log := fun _ => ⟨Nat.zero_le _, Nat.zero_le _, by simp [State.pinReset, State.reset]⟩
      channel := fun n _ => ?_
      tables := fun hw => ⟨hw.1, by simp [State.pinReset, State.reset, TableWf]⟩ }
  · rw [bankOk_iff]
    have e1 : t.pinReset.bank b = resetBank := Four.get_all _ _
    have e2 : t.pinReset.arb b = resetArbiter := Four.get_all _ _
    have e3 : t.pinReset.account b = { balance := 0, cursor := 0#8 } := Four.get_all _ _
    rw [e1, e2, e3]
    exact law
  · have e : t.pinReset.chan n = resetChannel := Four.get_all _ _
    rw [channelOk_iff, e]
    exact ⟨fun _ => rfl, fun _ => rfl, fun hf => absurd rfl hf⟩

theorem releaseReset (h : Keeps s t) : Keeps s t.releaseReset := by
  have h' : Keeps s { t with resetAsserted := false, tick := { running := true, count := 0 } } := by
    refine h.andFree fun p hp => ?_
    cases p with
    | resetLine | tick => simp [freeParts] at hp
    | _ => rfl
  unfold State.releaseReset
  dsimp only
  split
  · split
    · exact h'.enterQuiescing
    · exact h'
  · exact h

theorem withTick (h : Keeps s t) (x : TickTimer) : Keeps s { t with tick := x } := by
  refine h.andFree fun p hp => ?_
  cases p with
  | tick => simp [freeParts] at hp
  | _ => rfl

theorem refreshTick (h : Keeps s t) : Keeps s t.refreshTick :=
  Keeps.meet (foldl (fun _ b hu => hu.tickBank b) _ (h.withTick _)).tickScrub t

theorem pageHoldExpires (h : Keeps s t) (b : BankNo) : Keeps s (t.pageHoldExpires b) := by
  unfold State.pageHoldExpires
  split
  · exact (h.startClosed b .close 0#22 (by simp)).setArb b _ fun hb => ⟨hb.kinds, hb.streak⟩
  · exact h

theorem count (h : Keeps s t) : Keeps s t.count := by
  have h1 := h.mapBanks
    (fun k => { k with
      holdTimer := k.holdTimer.map fun x => { x with count := x.count + 1 }
      op := k.op.map fun o => { o with elapsed := o.elapsed + 1 } })
    fun k _ _ hk => hk.mapOp (fun o => { o with elapsed := o.elapsed + 1 }) (fun _ => rfl) _
  exact h1.withTick (if t.tick.running then { t.tick with count := t.tick.count + 1 } else t.tick)

theorem timed (h : Keeps s t) (x : Timed) : Keeps s (t.timed x) := by
  unfold State.timed
  split
  · cases x with
    | tick => exact h.refreshTick
    | hold b => exact h.pageHoldExpires b
    | op b => exact h.opCompletes b
  · exact h

theorem clock (h : Keeps s t) : Keeps s t.clock := by
  unfold State.clock
  dsimp only
  split
  · exact h
  · exact h.settled.count.forTogether _ fun x u hu => hu.settled.timed x

/-! ### Registers -/

theorem clamp_bounds {lo hi x : Nat} (h : lo ≤ hi) : lo ≤ clamp lo hi x ∧ clamp lo hi x ≤ hi := by
  unfold clamp
  omega

theorem writeConfig (h : Keeps s t) (x : Word) : Keeps s (t.writeConfig x) := by
  refine h.andRanges (fun p hp => ?_) fun hr => { hr with scrubRate := Nat.min_le_left _ _ }
  cases p with
  | config | tick => simp [freeParts, rangeParts] at hp
  | _ => rfl

theorem writeConfig2 (h : Keeps s t) (x : Word) : Keeps s (t.writeConfig2 x) := by
  refine h.andRanges (fun p hp => ?_) fun hr =>
    { hr with
      tOpen := clamp_bounds (by decide)
      tCol := clamp_bounds (by decide)
      tClose := clamp_bounds (by decide)
      tRef := clamp_bounds (by decide)
      tSrx := clamp_bounds (by decide) }
  cases p with
  | timing | fitted => simp [freeParts, rangeParts] at hp
  | _ => rfl

theorem writeFence (h : Keeps s t) (n : ChanNo) (limit : Bool) (x : Word) : Keeps s (t.writeFence n limit x) := by
  unfold State.writeFence
  dsimp only
  split
  · cases limit <;> exact h.setChan n _ fun hc => hc.same
  · exact h.raise _

theorem withEvents (h : Keeps s t) (x : EventUnit) : Keeps s { t with events := x } := by
  refine h.andFree fun p hp => ?_
  cases p with
  | events => simp [freeParts] at hp
  | _ => rfl

theorem withArg (h : Keeps s t) (x : Word) : Keeps s { t with arg := x } := by
  refine h.andFree fun p hp => ?_
  cases p with
  | arg => simp [freeParts] at hp
  | _ => rfl

theorem storeRegister (h : Keeps s t) (reg : BitVec 6) (x : Word) : Keeps s (t.storeRegister reg x) := by
  unfold State.storeRegister
  split
  · exact h.writeConfig x
  · exact h.writeConfig2 x
  · exact h.withArg x
  · exact h.withEvents _
  · exact h.withEvents _
  · exact h.withOverride _
  · split
    · exact h.writeFence _ _ _
    · split
      · exact h.writeFence _ _ _
      · exact h

theorem registerCycle (h : Keeps s t) (reg : BitVec 6) (x : Word) : Keeps s (t.registerCycle reg x) := by
  unfold State.registerCycle
  split
  · exact h.issue x
  · exact (h.storeRegister reg x).endCycle _

/-! ### Every command, every step -/

theorem memoryRead (h : Keeps s t) (addr : WordAddr) :
    Keeps s (t.busCycle fun u => if u.windowOpen addr then u.startRead addr else u.endCycle .error) :=
  h.busCycle fun u hu => by
    split
    · exact hu.startRead addr
    · exact hu.endCycle _

theorem streamTake (h : Keeps s t) (n : ChanNo) (sd : Word) (slast : Bool) :
    Keeps s (t.happen fun u =>
      match u.stream.beat with
      | some x => if x.ch = n then u.take x sd slast else u
      | none => u) :=
  h.happen fun u hu => by
    split
    · split
      · exact hu.take _ _ _
      · exact hu
    · exact hu

theorem srqDeassert (h : Keeps s t) (n : ChanNo) :
    Keeps s (if t.resetAsserted then t.setSrq n false else if t.settled.beatOf n then t.settled else
      t.settled.setSrq n false) :=
  iteInduction (fun _ => h.setSrq _ _) fun _ => iteInduction (fun _ => h.settled) fun _ => h.settled.setSrq _ _

theorem retReqFall (h : Keeps s t) :
    Keeps s (if t.resetAsserted then { t with retention := { t.retention with req := false } }
      else if t.settled.retention.req then t.settled.retReqFalls else t.settled) :=
  iteInduction (fun _ => h.withRetention _ (.inr (Nat.le_refl _))) fun _ =>
    iteInduction (fun _ => h.settled.retReqFalls) fun _ => h.settled

theorem retReqRise (h : Keeps s t) :
    Keeps s (if t.resetAsserted then { t with retention := { t.retention with req := true } }
      else if t.settled.retention.req then t.settled else t.settled.retReqRises) :=
  iteInduction (fun _ => h.withRetention _ (.inr (Nat.le_refl _))) fun _ =>
    iteInduction (fun _ => h.settled) fun _ => h.settled.retReqRises

/-- Every command keeps what is said. -/
theorem exec (i : Instr) {u : State} (h : Keeps s t) (he : Machine.exec i t = .next u) : Keeps s u := by
  cases i with
  | pinReset => exact Host.Outcome.next.inj he ▸ h.pinReset
  | resetRelease => exact Host.Outcome.next.inj he ▸ h.releaseReset
  | refreshTick => exact Host.Outcome.next.inj he ▸ h.happen fun _ hu => hu.refreshTick
  | pageHoldExpiry b => exact Host.Outcome.next.inj he ▸ h.happen fun _ hu => hu.pageHoldExpires b
  | wakeStart b | bankGrant b | deferredSwitchOff b | retentionOrderStart b | channelPauseTakesEffect b | abortReport b
  | residualClear b | fillEngineTakeUp | readDrainEnd | heldWriteAccept | commandBarrierEnd | quiesceComplete
  | retentionSettled | wakingComplete => exact Host.Outcome.next.inj he ▸ h.ownIfDue _
  | hostReadComplete b => exact Host.Outcome.next.inj he ▸ h.happen fun _ hu => hu.hostReadCompletes b
  | hostWriteComplete b => exact Host.Outcome.next.inj he ▸ h.happen fun _ hu => hu.hostWriteCompletes b
  | mergeComplete b => exact Host.Outcome.next.inj he ▸ h.happen fun _ hu => hu.mergeCompletes b
  | fillSegmentComplete b => exact Host.Outcome.next.inj he ▸ h.happen fun _ hu => hu.fillSegmentCompletes b
  | scrubSegmentComplete b => exact Host.Outcome.next.inj he ▸ h.happen fun _ hu => hu.scrubSegmentCompletes b
  | descriptorFetchComplete b => exact Host.Outcome.next.inj he ▸ h.happen fun _ hu => hu.fetchCompletes b
  | channelReadComplete b => exact Host.Outcome.next.inj he ▸ h.happen fun _ hu => hu.channelReadCompletes b
  | channelWriteComplete b => exact Host.Outcome.next.inj he ▸ h.happen fun _ hu => hu.channelWriteCompletes b
  | writebackComplete b => exact Host.Outcome.next.inj he ▸ h.happen fun _ hu => hu.writebackCompletes b
  | refreshComplete b => exact Host.Outcome.next.inj he ▸ h.happen fun _ hu => hu.refreshCompletes b
  | closeComplete b => exact Host.Outcome.next.inj he ▸ h.happen fun _ hu => hu.closeCompletes b
  | wakeComplete b => exact Host.Outcome.next.inj he ▸ h.happen fun _ hu => hu.wakeCompletes b
  | selfRefreshEntryComplete b => exact Host.Outcome.next.inj he ▸ h.happen fun _ hu => hu.entryCompletes b
  | powerDownComplete b => exact Host.Outcome.next.inj he ▸ h.happen fun _ hu => hu.powerDownCompletes b
  | selfRefreshExitComplete b => exact Host.Outcome.next.inj he ▸ h.happen fun _ hu => hu.exitCompletes b
  | memoryRead addr => exact Host.Outcome.next.inj he ▸ h.memoryRead addr
  | memoryWrite addr lanes data => exact Host.Outcome.next.inj he ▸ h.busCycle fun _ hu => hu.startWrite addr lanes data
  | doubleSelect => exact Host.Outcome.next.inj he ▸ h.busCycle fun _ hu => hu.endCycle _
  | registerWrite reg data => exact Host.Outcome.next.inj he ▸ h.busCycle fun _ hu => hu.registerCycle reg data
  | configWrite data => exact Host.Outcome.next.inj he ▸ h.busCycle fun _ hu => (hu.writeConfig data).endCycle _
  | config2Write data => exact Host.Outcome.next.inj he ▸ h.busCycle fun _ hu => (hu.writeConfig2 data).endCycle _
  | checkOverrideWrite data => exact Host.Outcome.next.inj he ▸ h.busCycle fun _ hu => (hu.withOverride _).endCycle _
  | fenceWrite n limit data => exact Host.Outcome.next.inj he ▸ h.busCycle fun _ hu => (hu.writeFence n limit data).endCycle _
  | eventFlagsWrite data => exact Host.Outcome.next.inj he ▸ h.busCycle fun _ hu => (hu.withEvents _).endCycle _
  | eventEnableWrite data => exact Host.Outcome.next.inj he ▸ h.busCycle fun _ hu => (hu.withEvents _).endCycle _
  | bankOn | bankOff | fill | release | query | logPop | chStart | chPause | chResume | chAbort | chReset | softReset
  | unknownCommand => exact Host.Outcome.next.inj he ▸ h.busCycle fun _ hu => hu.issue _
  | srqAssert n =>
    exact Host.Outcome.next.inj he ▸ iteInduction (fun _ => h.setSrq n true) fun _ => (h.settled.setSrq n true).decideBeat
  | srqDeassert n => exact Host.Outcome.next.inj he ▸ h.srqDeassert n
  | streamTake n sd slast => exact Host.Outcome.next.inj he ▸ h.streamTake n sd slast
  | retReqRise => exact Host.Outcome.next.inj he ▸ h.retReqRise
  | retReqFall => exact Host.Outcome.next.inj he ▸ h.retReqFall

end Keeps

/-- Every step keeps what is said, each property on its own. -/
theorem keeps_of_step {s t : State} (h : step s = .next t) : Keeps s t := by
  unfold step at h
  split at h
  · exact Host.Outcome.next.inj h ▸ (Keeps.refl s).clock
  · rename_i i rest _
    refine Keeps.exec i ((Keeps.refl s).andFree fun p hp => ?_) h
    cases p with
    | pending => simp [Keeps.freeParts] at hp
    | _ => rfl

/-- Settles O4: the law of each bank passes through every step. -/
theorem everyStepKeepsBanks : Obligations.EveryStepKeepsBanks :=
  fun _ _ hb hs b => (keeps_of_step hs).bank b (hb b)

/-- Settles O7: the ranges pass through every step. -/
theorem everyStepKeepsRanges : Obligations.EveryStepKeepsRanges :=
  fun _ _ hr hs => (keeps_of_step hs).ranges hr

end Sys2Proof.Machine
end

section
-- One thread at a time: the stack of each thread counts against the memory limit of the check.
set_option Elab.async false
/-! SUPPORT. Proofs/Rules.lean: what the operations on one bank leave of it: a closed row, an operation begun, the skipping rule, the
words of a bank, and a command taken or refused. -/

namespace Sys2Proof.Machine

/-! ### Rows and operations -/

theorem State.closeRow_bank (s : State) (b : BankNo) :
    (s.closeRow b).bank b = { s.bank b with openRow := none, holdTimer := none } := by
  unfold State.closeRow
  dsimp only
  split <;> simp [State.setBank_bank]

theorem State.closeRow_arb (s : State) (b : BankNo) : (s.closeRow b).arb b = afterClose (s.bank b) (s.arb b) := by
  unfold State.closeRow afterClose
  dsimp only
  split <;> simp [State.setArb_arb]

theorem State.startClosed_bank (s : State) (b : BankNo) (kind : OpKind) (addr : WordAddr) :
    (s.startClosed b kind addr).bank b =
      { s.bank b with openRow := none, holdTimer := none, op := some (s.newOp b kind addr 0 []) } := by
  simp [State.startClosed, State.setBank_bank, State.closeRow_bank]

theorem State.startClosed_arb (s : State) (b : BankNo) (kind : OpKind) (addr : WordAddr) :
    (s.startClosed b kind addr).arb b = afterClose (s.bank b) (s.arb b) := by
  simp [State.startClosed, State.closeRow_arb]

/-! ### The skipping rule (R55) -/

theorem State.skips_of_not_due (s : State) (b : BankNo) (fuel : Nat) (h : s.skipDue b = false) : s.skips b fuel = s := by
  cases fuel <;> simp [State.skips, h]

theorem State.applySkip_of_not_due (s : State) (b : BankNo) (h : s.skipDue b = false) : s.applySkip b = s :=
  s.skips_of_not_due b _ h

theorem State.skipDue_of_needed (s : State) (b : BankNo) (h : s.refreshing b = true ∨ s.needsRefresh (s.cursorGroup b) = true) :
    s.skipDue b = false := by
  rcases h with h | h <;> simp [State.skipDue, h]

/-- With `n` groups from the cursor on that need no refresh, `n` skips take a balance of `n` above −4 to −4. -/
theorem State.skips_unneeded (b : BankNo) (n : Nat) : ∀ s : State, s.isReady b = true → s.refreshing b = false →
    (s.account b).balance = n - 4 →
    (∀ k < n, s.needsRefresh (globalGroup b ((s.account b).cursor + BitVec.ofNat 8 k)) = false) →
    (s.skips b n).account b = { balance := -4, cursor := (s.account b).cursor + BitVec.ofNat 8 n } := by
  induction n with
  | zero =>
    intro s _ _ hb _
    rw [State.skips]
    cases ha : s.account b
    simp_all
  | succ n ih =>
    intro s hready href hb hk
    have hdue : s.skipDue b = true := by
      have h0 := hk 0 (Nat.succ_pos n)
      simp only [State.skipDue, hready, href, hb, State.cursorGroup]
      simp at h0
      simp [h0]
    have hacc : (s.settleOne b (-1)).account b =
        { balance := (s.account b).balance + -1, cursor := (s.account b).cursor + 1#8 } := by
      rw [State.settleOne_account, if_pos rfl]
    have hstep : ∀ k, (s.account b).cursor + 1#8 + BitVec.ofNat 8 k = (s.account b).cursor + BitVec.ofNat 8 (k + 1) :=
      fun k => by rw [BitVec.add_assoc, ← BitVec.ofNat_add, Nat.add_comm]
    have := ih (s.settleOne b (-1)) hready href (by rw [hacc, hb]; push_cast; ring) fun k hlt => by
      rw [hacc, hstep]
      exact hk (k + 1) (Nat.succ_lt_succ hlt)
    rw [State.skips, if_pos hdue, this, hacc, hstep]

theorem State.applySkip_unneeded (s : State) (b : BankNo) (hready : s.isReady b = true) (href : s.refreshing b = false)
    (hlow : -4 ≤ (s.account b).balance)
    (hk : ∀ k < ((s.account b).balance + 4).toNat,
      s.needsRefresh (globalGroup b ((s.account b).cursor + BitVec.ofNat 8 k)) = false) :
    (s.applySkip b).account b =
      { balance := -4, cursor := (s.account b).cursor + BitVec.ofNat 8 ((s.account b).balance + 4).toNat } :=
  State.skips_unneeded b _ s hready href (by omega) hk

/-! ### Addresses -/

theorem bankOf_val (w : WordAddr) : (bankOf w).val = w.toNat / 2 ^ 20 := by
  have := w.isLt
  simp [bankOf, Nat.shiftRight_eq_div_pow]
  omega

/-! ### Happenings, bus cycles and own steps, as commands -/

/-- A command that is a happening from outside, at rest. -/
theorem next_happen {s : State} {f : State → State} (h : s.atRest) :
    (Host.Outcome.next (s.happen f) : Host.Outcome State Fault Refusal) = .next (f s) := by
  rw [s.happen_atRest f h]

/-- A command that is a bus cycle, on a free bus. -/
theorem next_busCycle {s : State} {f : State → State} (h : s.busFree) :
    (Host.Outcome.next (s.busCycle f) : Host.Outcome State Fault Refusal) = .next (f s) := by
  rw [s.busCycle_free f h]

/-- A command that is an own step, when it is due. -/
theorem next_ownIfDue {s : State} {o : OwnStep} (h : s.ownDue o = true) :
    (Host.Outcome.next (s.ownIfDue o) : Host.Outcome State Fault Refusal) = .next (s.ownStep o) := by
  rw [s.ownIfDue_due o h]

/-! ### Commands (R186) -/

/-- The part as a command finds it: the word is in COMMAND, and CMD_STATUS is cleared (R108, R110). -/
def State.commanded (s : State) (w : Word) : State := { s with command := w, cmdStatus := resetCmdStatus }

theorem State.commanded_frame (s : State) (w : Word) : unchangedBut [.command, .cmdStatus] s (s.commanded w) := by
  intro p hp
  cases p with
  | command | cmdStatus => simp at hp
  | _ => rfl

theorem commandCode_commandWord (u : BitVec 24) (c : BitVec 8) : commandCode (commandWord u c) = c :=
  BitVec.setWidth_append_eq_right (a := u) (b := c)

theorem commandCode_channelCommandWord (u : BitVec 22) (n : ChanNo) (c : BitVec 8) :
    commandCode (channelCommandWord u n c) = c :=
  BitVec.setWidth_append_eq_right (a := u ++ BitVec.ofFin (w := 2) n) (b := c)

theorem commandChannel_channelCommandWord (u : BitVec 22) (n : ChanNo) (c : BitVec 8) :
    commandChannel (channelCommandWord u n c) = n :=
  congrArg BitVec.toFin
    ((BitVec.extractLsb'_append_eq_of_le (xhi := u ++ BitVec.ofFin (w := 2) n) (xlo := c) (Nat.le_refl 8)).trans
      BitVec.extractLsb'_append_eq_right)

/-- A command written on a free bus with an empty write queue is taken at once (R109). -/
theorem next_issue {s : State} (w : Word) (h : s.commandReady) :
    (Host.Outcome.next (s.busCycle fun t => t.issue w) : Host.Outcome State Fault Refusal) =
      .next ((s.commanded w).concludeCommand (s.commanded w).runCommand) := by
  rw [next_busCycle h.1, s.issue_ready w h.2]
  rfl

/-- What a refused command leaves (R110). -/
theorem refused_of_runCommand {s : State} {w : Word} {r : Reason} (h : s.commandReady)
    (hr : (s.commanded w).runCommand = .error r) :
    ∃ t, (Host.Outcome.next (s.busCycle fun t => t.issue w) : Host.Outcome State Fault Refusal) = .next t ∧
      commandRefused s t w r := by
  refine ⟨_, next_issue w h, ?_⟩
  rw [hr]
  refine ⟨rfl, rfl, rfl, rfl, fun p hp => ?_⟩
  cases p with
  | command | cmdStatus | host | events => simp at hp
  | _ => rfl

/-- What a taken command leaves: its effect, COMMAND, CMD_STATUS and the end of the cycle (R110). -/
theorem taken_of_runCommand {s u : State} {w : Word} {ps : List Part} (h : s.commandReady)
    (hr : (s.commanded w).runCommand = .ok u) (hu : unchangedBut ps (s.commanded w) u)
    (hp : ∀ p ∈ [Part.command, .cmdStatus, .host], p ∉ ps) :
    ∃ t, (Host.Outcome.next (s.busCycle fun t => t.issue w) : Host.Outcome State Fault Refusal) = .next t ∧
      commandTaken s t w ∧ unchangedBut [.cmdStatus, .host] u t ∧ unchangedBut (ps ++ [.command, .cmdStatus, .host]) s t := by
  have hc : u.command = w := hu .command (hp _ (by simp))
  have hs : u.cmdStatus = resetCmdStatus := hu .cmdStatus (hp _ (by simp))
  have hh : u.host = s.host := hu .host (hp _ (by simp))
  refine ⟨_, next_issue w h, ?_⟩
  rw [hr]
  have hlast : unchangedBut [.cmdStatus, .host] u ((s.commanded w).concludeCommand (.ok u)) := by
    intro p hp
    cases p with
    | cmdStatus | host => simp at hp
    | _ => rfl
  refine ⟨⟨hc, ?_, ?_⟩, hlast, ?_⟩
  · show { u.cmdStatus with outcome := .taken, reason := .none, code := commandCode w } = _
    rw [hs]
    rfl
  · show endedPort u.host _ = _
    rw [hh]
  · exact ((((s.commanded_frame w).mono (by simp)).andThen hu (by simp)).andThen hlast (by simp))

end Sys2Proof.Machine
end

section
-- One thread at a time: the stack of each thread counts against the memory limit of the check.
set_option Elab.async false
/-! SUPPORT. Proofs/Banks.lean: reset, the page hold, the banks that come up and go to sleep, FITTED, and the host's write. -/

namespace Sys2Proof.Machine

/-- Settles O10, each block's value as reset gives it. -/
theorem pinResetRestoresEveryBlock : Obligations.PinResetRestoresEveryBlock := by
  intro s
  have hb : ∀ b, s.pinReset.bank b = resetBank := fun b => Four.get_all _ b
  have ha : ∀ b, s.pinReset.arb b = resetArbiter := fun b => Four.get_all _ b
  have hr : ∀ b, s.pinReset.account b = { balance := 0, cursor := 0#8 } := fun b => Four.get_all _ b
  have hc : s.pinReset.readConfig = State.reset.readConfig := rfl
  have hc2 : s.pinReset.readConfig2 = State.reset.readConfig2 := rfl
  have hs : s.pinReset.readCmdStatus = State.reset.readCmdStatus := rfl
  refine ⟨_, rfl, fun b => ?_, fun _ => rfl, rfl, hc.trans (by decide), hc2.trans (by decide), rfl, rfl, rfl, rfl, rfl, rfl,
    hs.trans (by decide), fun n => Four.get_all _ n, rfl, rfl, rfl, rfl, rfl, rfl, rfl, rfl, rfl, rfl⟩
  rw [hb, ha, hr]
  exact ⟨rfl, by rw [State.noRequests, ha]; simp [resetArbiter], rfl, rfl, rfl, rfl, Four.get_all _ b⟩

/-- Settles O14: the CLOSE begins as every operation that closes the row does. -/
theorem pageHoldExpiryCloses : Obligations.PageHoldExpiryCloses := by
  intro s b h hrest hfree hhold
  have he : s.pageHoldExpires b =
      (s.startClosed b .close 0#22).setArb b { (s.startClosed b .close 0#22).arb b with met := false } := by
    simp [State.pageHoldExpires, hfree, hhold]
  refine ⟨_, s.newOp b .close 0#22 0 [], next_happen hrest, rfl, rfl, rfl, ?_, ?_, ?_⟩
  · rw [he, State.setArb_bank, State.startClosed_bank]
  · rw [he, State.setArb_arb, if_pos rfl, State.startClosed_arb]
  · rw [he]
    exact (s.startClosed_frame b _ _).andThen (State.setArb_frame _ b _) (by simp)

/-! ### Banks that come up, and banks that go to sleep -/

/-- A completion acts on the operation in flight when that is of its kind. -/
theorem State.onOp_of_op {s : State} {b : BankNo} {o : Op} {p : OpKind → Bool} {f : Op → State} (ho : (s.bank b).op = some o)
    (hp : p o.kind = true) : s.onOp b p f = f o := by
  simp [State.onOp, ho, hp]

/-- The bank as it comes up (R6, R20). -/
def cameUp (k : Bank) : Bank := { k with state := .ready, settle := 0, openRow := none, holdTimer := none, op := none }

section
variable (s : State) (b : BankNo) (x : Int) (c : BitVec 8)

theorem State.comeUp_bank : (s.comeUp b x c).bank b = cameUp (s.bank b) := by
  rw [State.comeUp, State.applySkip_frame _ b (.bank b) (by simp)]
  simp [State.setBalance_bank, State.setBank_bank, cameUp]

theorem State.comeUp_arb : (s.comeUp b x c).arb b = { s.arb b with streak := 0 } := by
  rw [State.comeUp, State.applySkip_frame _ b (.arb b) (by simp)]
  simp [State.setBalance_arb, State.setArb_arb]

theorem State.comeUp_frame : unchangedBut [.bank b, .arb b, .account b] s (s.comeUp b x c) :=
  ((((s.setBank_frame b _).mono (by simp)).andThen (State.setArb_frame _ b _) (by simp)).andThen
    (State.setAccount_frame _ b _) (by simp)).andThen (State.applySkip_frame _ b) (by simp)

/-- The account of a bank that comes up with the cursor on a group that needs refresh (R57, R60). -/
theorem State.comeUp_needed (h : s.needsRefresh (globalGroup b c) = true) :
    (s.comeUp b x c).account b = { balance := x, cursor := c } := by
  rw [State.comeUp, State.applySkip_of_not_due]
  · simp [State.setBalance_account]
  · refine State.skipDue_of_needed _ b (.inr ?_)
    rw [State.cursorGroup, State.setBalance_account, if_pos rfl]
    exact h

/-- The account of a bank that comes up with a balance of 0 and the cursor at 0, groups 0 to 3 needing no refresh (R57). -/
theorem State.comeUp_unneeded (h : ∀ k < 4, s.needsRefresh (b.val * 256 + k) = false) :
    (s.comeUp b 0 0#8).account b = { balance := -4, cursor := 4#8 } := by
  have hk : ∀ k < 4, s.needsRefresh (globalGroup b (0#8 + BitVec.ofNat 8 k)) = false := fun k hlt => by
    rw [← h k hlt, globalGroup]
    congr 2
    simp
    omega
  have hacc : ∀ u : State, (u.setBalance b 0 0#8).account b = { balance := 0, cursor := 0#8 } := fun u => by
    rw [State.setBalance_account, if_pos rfl]
  rw [State.comeUp, State.applySkip_unneeded]
  · rw [hacc]
    rfl
  · simp [State.isReady, State.setBank_bank]
  · simp [State.refreshing, State.setBank_bank]
  · rw [hacc]
    decide
  · rw [hacc]
    exact hk

end

/-- Settles O34. -/
theorem banksComeUp : Obligations.BanksComeUp := by
  intro s b o hrest ho
  refine ⟨fun hk => ?_, fun hk => ?_, fun hk hneed => ?_⟩
  · have he : s.closeCompletes b = s.clearOp b := State.onOp_of_op ho (by simp [hk])
    refine ⟨_, next_happen hrest, ?_, ?_⟩ <;> rw [he]
    · rw [State.clearOp_bank, if_pos rfl]
    · exact s.setBank_frame b _
  · have he : s.wakeCompletes b = (s.comeUp b 0 0#8).raise .bankReady := State.onOp_of_op ho (by simp [hk])
    have hev : (s.comeUp b 0 0#8).events = s.events := s.comeUp_frame b 0 0#8 .events (by simp)
    refine ⟨_, next_happen hrest, ?_⟩
    rw [he]
    refine ⟨s.comeUp_bank b _ _, s.comeUp_arb b _ _, ?_, s.comeUp_needed b 0 0#8, s.comeUp_unneeded b, ?_⟩
    · rw [State.raise_events, hev]
    · exact ((s.comeUp_frame b _ _).mono (by simp)).andThen (State.raise_frame _ _) (by simp)
  · have he : s.exitCompletes b = (s.comeUp b 4 (s.account b).cursor).reportSettled := State.onOp_of_op ho (by simp [hk])
    have hret : (s.comeUp b 4 (s.account b).cursor).retention = s.retention := s.comeUp_frame b _ _ .retention (by simp)
    refine ⟨_, next_happen hrest, ?_⟩
    rw [he]
    refine ⟨s.comeUp_bank b _ _, s.comeUp_arb b _ _, s.comeUp_needed b _ _ hneed, ?_, ?_⟩
    · rw [State.reportSettled_retention, hret]
    · exact ((s.comeUp_frame b _ _).mono (by simp)).andThen (State.withRetention_frame _ _) (by simp)

/-- A bank that loses its contents reads as blank, and no other bank's word changes. -/
theorem State.loseContents_word (s : State) (b : BankNo) (w : WordAddr) (h : s.tablesWf) :
    (s.loseContents b).word w = if bankOf w = b then blankWord else s.word w := by
  have := tableRead_filter (fun e => e.1 / 2 ^ 20 != b.val) w.toNat h.1
  rw [State.word, State.loseContents, this, ← bankOf_val]
  by_cases hw : bankOf w = b
  · simp [hw]
  · have : (bankOf w).val ≠ b.val := fun hv => hw (Fin.ext hv)
    simp [hw, this, State.word]

/-- Settles O35. -/
theorem banksGoToSleep : Obligations.BanksGoToSleep := by
  intro s b o hrest hwf ho
  refine ⟨fun hk => ?_, fun hk => ?_⟩
  · have he : s.entryCompletes b = (s.setBank b { s.bank b with state := .retained, op := none }).reportSettled :=
      State.onOp_of_op ho (by simp [hk])
    refine ⟨_, next_happen hrest, ?_⟩
    rw [he]
    refine ⟨by simp [State.setBank_bank], by simp, ?_⟩
    exact ((s.setBank_frame b _).mono (by simp)).andThen (State.withRetention_frame _ _) (by simp)
  · let u := (s.setBank b { s.bank b with state := .dormant, op := none }).setBalance b 0 (s.account b).cursor
    have he : s.powerDownCompletes b = (u.loseContents b).reportSettled := State.onOp_of_op ho (by simp [hk])
    have hu : unchangedBut [.bank b, .account b] s u :=
      ((s.setBank_frame b _).mono (by simp)).andThen (State.setAccount_frame _ b _) (by simp)
    have hw : ∀ w, ((u.loseContents b).reportSettled).word w = if bankOf w = b then blankWord else s.word w := fun w =>
      u.loseContents_word b w hwf
    refine ⟨_, next_happen hrest, ?_⟩
    rw [he]
    refine ⟨by simp [u, State.setBalance_bank, State.setBank_bank], by simp [u, State.setBalance_account], fun w hne => ?_,
      fun w heq => ?_, by simp [u], ?_⟩
    · rw [hw, if_neg hne]
    · rw [hw, if_pos heq]
    · exact ((hu.mono (by simp)).andThen (State.loseContents_frame _ b) (by simp)).andThen
        (State.withRetention_frame _ _) (by simp)

/-! ### FITTED -/

/-- Soft reset leaves the FITTED flags as they are (R2). -/
theorem State.softResetEffect_fitted (s : State) : s.softResetEffect.fitted = s.fitted := by
  let t := s.resetFill.resetScrub
  let u : State := { t with override := { t.override with armed := false } }
  calc s.softResetEffect.fitted
      = (Four.indices.foldl (fun v n => v.resetChan n) u).clearReports.fitted :=
        State.applySkips_frame _ .fitted (by simp [allAccounts])
    _ = (Four.indices.foldl (fun v n => v.resetChan n) u).fitted := State.clearReports_frame _ .fitted (by simp)
    _ = s.resetFill.resetScrub.fitted := u.resetChans_frame .fitted (by simp [allArbs, allBanks, allChans])
    _ = s.resetFill.fitted := State.resetScrub_frame _ .fitted (by simp [allArbs, allBanks])
    _ = s.fitted := s.resetFill_frame .fitted (by simp [allArbs])

/-- Settles O48. -/
theorem fittedChangesOnlyWhenOff : Obligations.FittedChangesOnlyWhenOff := by
  refine ⟨fun s x hfree => ?_, fun s => ⟨_, rfl, fun b => Four.get_all _ b⟩, fun s u hready => ?_⟩
  · refine ⟨_, next_busCycle hfree, fun b => ?_, ?_, rfl, ?_⟩
    · match b with
      | 0 | 1 | 2 | 3 => rfl
    · have h4 := (x.extractLsb' 4 4).isLt
      have h12 := (x.extractLsb' 12 4).isLt
      have h16 := (x.extractLsb' 16 6).isLt
      have h22 := (x.extractLsb' 22 10).isLt
      simp only [State.endCycle_timing, State.writeConfig2, timingFields, clamp, Timing.mk.injEq]
      exact ⟨by omega, trivial, by omega, by omega, by omega⟩
    · intro p hp
      cases p with
      | fitted | timing | host => simp at hp
      | _ => rfl
  · refine ⟨_, next_issue _ hready, ?_⟩
    have hcode : commandCode (s.commanded (commandWord u 0x1F#8)).command = 0x1F#8 := commandCode_commandWord u _
    have hrun : (s.commanded (commandWord u 0x1F#8)).runCommand = (s.commanded (commandWord u 0x1F#8)).softResetCommand := by
      rw [State.runCommand, hcode]
      rfl
    rw [hrun, State.softResetCommand]
    split
    · rfl
    · exact State.softResetEffect_fitted _

/-! ### The host's write -/

/-- With every entry's bank READY, placing the head changes arbiters alone (R104). -/
theorem State.placeHeads_frame (fuel : Nat) (s : State) (h : ∀ e ∈ s.host.queue, s.isReady (bankOf e.addr) = true) :
    unchangedBut allArbs s (s.placeHeads fuel) := by
  cases fuel with
  | zero => exact .refl _ s
  | succ fuel =>
    unfold State.placeHeads
    dsimp only
    split
    · exact .refl _ s
    · rename_i e rest hq
      have hr := h e (by simp [hq])
      split
      · exact .refl _ s
      · split
        · simp [hr] at *
        · split
          · exact .refl _ s
          · exact (s.setArb_frame _ _).mono (by simp)

/-- Settles O22. -/
theorem hostWriteStores : Obligations.HostWriteStores := by
  intro s b o x e rest hrest hwf ho hk hp hq hready
  let t := ((s.setWords o.addr o.payload).finishColumn b).dropHead
  have he : s.hostWriteCompletes b = t.placeHead := State.onOp_of_op ho (by simp [hk])
  have hone : s.setWords o.addr o.payload = s.setWord o.addr x := by rw [hp]; rfl
  have hhost : t.host = { s.host with queue := rest } := by simp [t, State.dropHead, hone, hq]
  have ht : unchangedBut [.array, .host, .bank b, .arb b] s t :=
    (((s.setWords_frame _ _).mono (by simp)).andThen (State.finishColumn_frame _ b) (by simp)).andThen
      (State.withHost_frame _ _) (by simp)
  have hplace : unchangedBut allArbs t t.placeHead := t.placeHeads_frame _ fun f hf => by
    rw [hhost] at hf
    show ((s.setWords o.addr o.payload).finishColumn b).isReady _ = true
    rw [State.finishColumn_isReady, hone]
    exact hready f hf
  have hword : ∀ w, t.placeHead.word w = if w = o.addr then x else s.word w := fun w => by
    have harr : t.placeHead.array = t.array := hplace .array (by simp [allArbs])
    rw [State.word, harr]
    rw [← s.setWord_word o.addr w x hwf, ← hone]
    simp [t, State.dropHead, State.word]
  refine ⟨_, next_happen hrest, ?_⟩
  rw [he]
  refine ⟨by rw [hword, if_pos rfl], fun w hw => by rw [hword, if_neg hw], ?_, ?_, ?_⟩
  · exact (hplace .host (by simp [allArbs])).trans hhost
  · refine (hplace (.bank b) (by simp [allArbs])).trans ?_
    show ((s.setWords o.addr o.payload).finishColumn b).bank b = _
    rw [State.finishColumn_bank, if_pos rfl, hone, State.setWord_config, State.setWord_bank]
  · exact (ht.mono (by simp)).andThen hplace (by grind)

end Sys2Proof.Machine
end

section
-- One thread at a time: the stack of each thread counts against the memory limit of the check.
set_option Elab.async false
/-! SUPPORT. Proofs/Commands.lean: commands refused, and BANK_ON and BANK_OFF. -/

namespace Sys2Proof.Machine

/-! ### What COMMAND holds -/

theorem eq_ofNat_of_toNat {c : BitVec 8} {k : Nat} (h : c.toNat = k) : c = BitVec.ofNat 8 k := by
  rw [← h, BitVec.ofNat_toNat, BitVec.setWidth_eq]

/-- A code of no command is refused with ARG (R186). -/
theorem State.runCommand_unknown (s : State) (h : commandCode s.command ∉ commandCodes) : s.runCommand = .error .arg := by
  unfold State.runCommand
  dsimp only
  split
  case h_13 => rfl
  all_goals
    rename_i hk
    exact absurd (by rw [eq_ofNat_of_toNat hk]; decide) h

section
variable (s : State) (u : BitVec 24)

theorem State.runCommand_bankOn :
    (s.commanded (commandWord u 0x01#8)).runCommand = (s.commanded (commandWord u 0x01#8)).bankOn := by
  have h : commandCode (s.commanded (commandWord u 0x01#8)).command = 0x01#8 := commandCode_commandWord u _
  rw [State.runCommand, h]
  rfl

theorem State.runCommand_bankOff :
    (s.commanded (commandWord u 0x02#8)).runCommand = (s.commanded (commandWord u 0x02#8)).bankOff := by
  have h : commandCode (s.commanded (commandWord u 0x02#8)).command = 0x02#8 := commandCode_commandWord u _
  rw [State.runCommand, h]
  rfl

theorem State.runCommand_fill :
    (s.commanded (commandWord u 0x03#8)).runCommand = (s.commanded (commandWord u 0x03#8)).fillCommand := by
  have h : commandCode (s.commanded (commandWord u 0x03#8)).command = 0x03#8 := commandCode_commandWord u _
  rw [State.runCommand, h]
  rfl

theorem State.runCommand_release :
    (s.commanded (commandWord u 0x04#8)).runCommand = (s.commanded (commandWord u 0x04#8)).releaseCommand := by
  have h : commandCode (s.commanded (commandWord u 0x04#8)).command = 0x04#8 := commandCode_commandWord u _
  rw [State.runCommand, h]
  rfl

theorem State.runCommand_softReset :
    (s.commanded (commandWord u 0x1F#8)).runCommand = (s.commanded (commandWord u 0x1F#8)).softResetCommand := by
  have h : commandCode (s.commanded (commandWord u 0x1F#8)).command = 0x1F#8 := commandCode_commandWord u _
  rw [State.runCommand, h]
  rfl

end

section
variable (s : State) (n : ChanNo) (u : BitVec 22)

theorem State.runCommand_chStart :
    (s.commanded (channelCommandWord u n 0x10#8)).runCommand =
      (s.commanded (channelCommandWord u n 0x10#8)).chStartCommand n := by
  have h : commandCode (s.commanded (channelCommandWord u n 0x10#8)).command = 0x10#8 :=
    commandCode_channelCommandWord u n _
  have hn : commandChannel (s.commanded (channelCommandWord u n 0x10#8)).command = n :=
    commandChannel_channelCommandWord u n _
  rw [State.runCommand, h, hn]
  rfl

theorem State.runCommand_chResume :
    (s.commanded (channelCommandWord u n 0x12#8)).runCommand =
      (s.commanded (channelCommandWord u n 0x12#8)).chResumeCommand n := by
  have h : commandCode (s.commanded (channelCommandWord u n 0x12#8)).command = 0x12#8 :=
    commandCode_channelCommandWord u n _
  have hn : commandChannel (s.commanded (channelCommandWord u n 0x12#8)).command = n :=
    commandChannel_channelCommandWord u n _
  rw [State.runCommand, h, hn]
  rfl

end

/-! ### What ARG holds -/

theorem argBank_ofNat : ∀ b : BankNo, argBank (BitVec.ofNat 32 b.val) = some b := by decide

theorem argBank_none {arg : Word} (h : 3 < arg.toNat) : argBank arg = none := by
  rw [argBank, if_neg (by omega)]

theorem argFirst_append (count first : Nat) (h : first < 2 ^ 16) :
    argFirst (BitVec.ofNat 16 count ++ BitVec.ofNat 16 first : BitVec 32) = first := by
  have e : (BitVec.ofNat 16 count ++ BitVec.ofNat 16 first : BitVec 32).extractLsb' 0 16 = BitVec.ofNat 16 first :=
    BitVec.extractLsb'_append_eq_right
  rw [argFirst, e, BitVec.toNat_ofNat, Nat.mod_eq_of_lt h]

theorem argCount_append (count first : Nat) (h : count < 2 ^ 16) :
    argCount (BitVec.ofNat 16 count ++ BitVec.ofNat 16 first : BitVec 32) = count := by
  have e : (BitVec.ofNat 16 count ++ BitVec.ofNat 16 first : BitVec 32).extractLsb' 16 16 = BitVec.ofNat 16 count :=
    BitVec.extractLsb'_append_eq_left
  rw [argCount, e, BitVec.toNat_ofNat, Nat.mod_eq_of_lt h]

theorem argDesc_append (d : DescAddr) : ∃ d', argDesc (0#8 ++ d ++ 0#4 : BitVec 32) = some d' := by
  have h0 : (0#8 ++ d ++ 0#4 : BitVec 32).extractLsb' 0 4 = 0#4 := BitVec.extractLsb'_append_eq_right
  have h1 : (0#8 ++ d ++ 0#4 : BitVec 32).extractLsb' 24 8 = 0#8 :=
    (BitVec.extractLsb'_append_eq_of_le (xhi := 0#8 ++ d) (xlo := 0#4) (by decide)).trans BitVec.extractLsb'_append_eq_left
  exact ⟨_, by rw [argDesc, if_pos ⟨h0, h1⟩]⟩

/-! ### Refusals -/

theorem State.bankOn_unserved {s : State} {b : BankNo} (hs : s.inService = false) (ha : s.arg = BitVec.ofNat 32 b.val)
    (hf : s.fitted.get b = true) : s.bankOn = .error .retention := by
  simp [State.bankOn, ha, argBank_ofNat, hf, hs]

theorem State.bankOff_unserved {s : State} {b : BankNo} (hs : s.inService = false) (ha : s.arg = BitVec.ofNat 32 b.val) :
    s.bankOff = .error .retention := by
  simp [State.bankOff, ha, argBank_ofNat, hs]

/-- A run within the 1024 groups passes the first condition of R27 and R37. -/
theorem runInRange_append {arg : Word} {first count : Nat} (ha : arg = BitVec.ofNat 16 count ++ BitVec.ofNat 16 first)
    (h1 : 1 ≤ count) (h2 : first + count ≤ 1024) : runInRange (argFirst arg) (argCount arg) = true := by
  rw [ha, argFirst_append count first (by omega), argCount_append count first (by omega)]
  simp only [runInRange, Bool.and_eq_true, decide_eq_true_eq]
  omega

theorem State.fill_unserved {s : State} (hs : s.inService = false)
    (ha : runInRange (argFirst s.arg) (argCount s.arg) = true) : s.fillCommand = .error .retention := by
  simp [State.fillCommand, ha, hs]

theorem State.release_unserved {s : State} (hs : s.inService = false)
    (ha : runInRange (argFirst s.arg) (argCount s.arg) = true) : s.releaseCommand = .error .retention := by
  simp [State.releaseCommand, ha, hs]

theorem State.chStart_unserved {s : State} {d : DescAddr} (n : ChanNo) (hs : s.inService = false)
    (ha : s.arg = (0#8 ++ d ++ 0#4 : BitVec 32)) : s.chStartCommand n = .error .retention := by
  obtain ⟨d', hd⟩ := argDesc_append d
  simp [State.chStartCommand, ha, hd, hs]

theorem State.chResume_unserved {s : State} (n : ChanNo) (hs : s.inService = false) :
    s.chResumeCommand n = .error .retention := by
  simp [State.chResumeCommand, hs]

theorem State.softReset_unserved {s : State} (hs : s.inService = false) : s.softResetCommand = .error .retention := by
  simp [State.softResetCommand, hs]

/-- Settles O58: each refused command is one that `runCommand` answers with its reason. -/
theorem refusalsChangeNothing : Obligations.RefusalsChangeNothing := by
  intro s hready
  refine ⟨fun w hw => refused_of_runCommand hready ((s.commanded w).runCommand_unknown hw), fun c w hs hw hc => ?_⟩
  rcases hc with ⟨u, b, (⟨rfl, hf⟩ | rfl), ha⟩ | ⟨u, first, count, (rfl | rfl), ha, h1, h2⟩ | ⟨n, u, d, rfl, ha⟩ |
    ⟨n, u, rfl⟩ | ⟨u, rfl⟩ <;> cases hw
  · exact refused_of_runCommand hready ((s.runCommand_bankOn u).trans (State.bankOn_unserved hs ha hf))
  · exact refused_of_runCommand hready ((s.runCommand_bankOff u).trans (State.bankOff_unserved hs ha))
  · exact refused_of_runCommand hready ((s.runCommand_fill u).trans (State.fill_unserved hs (runInRange_append ha h1 h2)))
  · exact refused_of_runCommand hready ((s.runCommand_release u).trans (State.release_unserved hs (runInRange_append ha h1 h2)))
  · exact refused_of_runCommand hready ((s.runCommand_chStart n u).trans (State.chStart_unserved n hs ha))
  · exact refused_of_runCommand hready ((s.runCommand_chResume n u).trans (State.chResume_unserved n hs))
  · exact refused_of_runCommand hready ((s.runCommand_softReset u).trans (State.softReset_unserved hs))

/-! ### A bank goes to OFF -/

/-- Bank `b` as it is OFF, the requests pending there not answered yet (R8, R58). -/
def State.wentOff (s : State) (b : BankNo) : State :=
  ((s.closeRow b).setBank b { (s.closeRow b).bank b with
    state := .off, settle := 0, op := none, offWaiting := false, order := none }).setBalance b 0 0#8

theorem State.goOff_eq (s : State) (b : BankNo) : s.goOff b = (s.wentOff b).answerPending b := rfl

theorem State.wentOff_bank (s : State) (b : BankNo) : (s.wentOff b).bank b = resetBank := by
  rw [State.wentOff, State.setBalance_bank, State.setBank_bank, if_pos rfl, State.closeRow_bank]
  rfl

theorem State.wentOff_arb (s : State) (b : BankNo) : (s.wentOff b).arb b = afterClose (s.bank b) (s.arb b) := by
  rw [State.wentOff, State.setBalance_arb, State.setBank_arb, State.closeRow_arb]

theorem State.wentOff_account (s : State) (b : BankNo) : (s.wentOff b).account b = { balance := 0, cursor := 0#8 } := by
  rw [State.wentOff, State.setBalance_account, if_pos rfl]

theorem State.wentOff_frame (s : State) (b : BankNo) : unchangedBut [.bank b, .arb b, .account b] s (s.wentOff b) :=
  (((s.closeRow_frame b).mono (by simp)).andThen (State.setBank_frame _ b _) (by simp)).andThen
    (State.setAccount_frame _ b _) (by simp)

/-- A closing row touches no request. -/
theorem noRequests_of_afterClose {s t : State} {b : BankNo} {k : Bank} (ha : t.arb b = afterClose k (s.arb b))
    (h : s.noRequests b) : t.noRequests b := by
  rw [State.noRequests, ha, afterClose]
  split <;> exact h

theorem State.goOff_none (s : State) (b : BankNo) (h : s.noRequests b) : s.goOff b = s.wentOff b := by
  rw [State.goOff_eq, State.answerPending_none _ b (noRequests_of_afterClose (s.wentOff_arb b) h)]

/-! ### Groups that become DISCARD -/

/-- The groups of the run in one of the states become DISCARD, every other group stays (R7, R26). -/
theorem State.discardGroups_group (from_ : List GroupState) (g : Nat) (gs : List Nat) : ∀ s : State, s.tablesWf →
    (s.discardGroups gs from_).group g =
      if g ∈ gs ∧ from_.contains (s.group g).state = true then blankGroup else s.group g := by
  induction gs with
  | nil => exact fun s _ => by simp [State.discardGroups]
  | cons k rest ih =>
    intro s hwf
    have hcons : s.discardGroups (k :: rest) from_ =
        (if from_.contains (s.group k).state then s.setGroup k blankGroup else s).discardGroups rest from_ := rfl
    rw [hcons]
    by_cases hk : from_.contains (s.group k).state = true
    · rw [if_pos hk, ih _ (s.setGroup_wf k blankGroup hwf), s.setGroup_group k g blankGroup hwf]
      by_cases hg : g = k
      · subst hg
        have hin : g ∈ g :: rest ∧ from_.contains (s.group g).state = true := ⟨List.mem_cons_self, hk⟩
        simp only [if_true, ite_self, if_pos hin]
      · simp [hg]
    · rw [if_neg hk, ih s hwf]
      by_cases hg : g = k
      · subst hg
        rw [if_neg fun h => hk h.2, if_neg fun h => hk h.2]
      · simp [hg]

theorem mem_runGroups {first count g : Nat} : g ∈ runGroups first count ↔ first ≤ g ∧ g < first + count := by
  simp only [runGroups, List.mem_map, List.mem_range]
  constructor
  · rintro ⟨k, hk, rfl⟩
    omega
  · rintro ⟨h1, h2⟩
    exact ⟨g - first, by omega, by omega⟩

/-- The LAPSED groups of bank `b` become DISCARD (R7). -/
theorem State.discardLapsed_group (s : State) (b : BankNo) (g : Nat) (h : s.tablesWf) :
    (s.discardGroups (runGroups (b.val * 256) 256) [.lapsed]).group g =
      if g / 256 = b.val ∧ (s.group g).state = .lapsed then { state := .discard, weak := 0 } else s.group g := by
  have hm : g ∈ runGroups (b.val * 256) 256 ↔ g / 256 = b.val := by
    rw [mem_runGroups]
    omega
  rw [State.discardGroups_group _ g _ s h]
  simp [hm, blankGroup]

/-- A bank may switch off when each of its groups is DISCARD or LAPSED (R7). -/
theorem State.maySwitchOff_iff (s : State) (b : BankNo) : s.maySwitchOff b = true ↔
    ∀ k < 256, (s.group (b.val * 256 + k)).state = .discard ∨ (s.group (b.val * 256 + k)).state = .lapsed := by
  simp only [State.maySwitchOff, List.all_eq_true, List.mem_range]
  refine forall₂_congr fun k _ => ?_
  cases (s.group (b.val * 256 + k)).state <;> simp

/-! ### BANK_ON and BANK_OFF -/

theorem State.bankOn_ok {s : State} {b : BankNo} (ha : s.arg = BitVec.ofNat 32 b.val) (hf : s.fitted.get b = true)
    (hs : s.inService = true) (ho : (s.bank b).state = .off) : s.bankOn = .ok (s.bankOnEffect b) := by
  simp [State.bankOn, ha, argBank_ofNat, hf, hs, ho]

theorem State.bankOn_arg {s : State} {b : BankNo} (ha : s.arg = BitVec.ofNat 32 b.val) (hf : s.fitted.get b = false) :
    s.bankOn = .error .arg := by
  simp [State.bankOn, ha, argBank_ofNat, hf]

theorem State.bankOn_state {s : State} {b : BankNo} (ha : s.arg = BitVec.ofNat 32 b.val) (hf : s.fitted.get b = true)
    (hs : s.inService = true) (ho : (s.bank b).state ≠ .off) : s.bankOn = .error .state := by
  simp [State.bankOn, ha, argBank_ofNat, hf, hs, ho]

theorem State.bankOff_ok {s : State} {b : BankNo} (ha : s.arg = BitVec.ofNat 32 b.val) (hs : s.inService = true)
    (hu : s.inUse b = true) (hm : s.maySwitchOff b = true) : s.bankOff = .ok (s.bankOffEffect b) := by
  simp [State.bankOff, ha, argBank_ofNat, hs, hu, hm]

theorem State.bankOff_state {s : State} {b : BankNo} (ha : s.arg = BitVec.ofNat 32 b.val) (hs : s.inService = true)
    (h : s.inUse b = false ∨ s.maySwitchOff b = false) : s.bankOff = .error .state := by
  rcases h with h | h
  · simp [State.bankOff, ha, argBank_ofNat, hs, h]
  · cases hu : s.inUse b <;> simp [State.bankOff, ha, argBank_ofNat, hs, h, hu]

/-- What BANK_OFF leaves of a bank that is in INIT or free, with no request pending (R7, R8). -/
theorem State.bankOffEffect_atOnce (s : State) (b : BankNo) (hwf : s.tablesWf)
    (hb : (s.bank b).state = .init ∨ s.isFree b = true) (hn : s.noRequests b) :
    (s.bankOffEffect b).bank b = resetBank ∧ (s.bankOffEffect b).account b = { balance := 0, cursor := 0#8 } ∧
      (s.bankOffEffect b).arb b = afterClose (s.bank b) (s.arb b) ∧
      (∀ g, (s.bankOffEffect b).group g =
        if g / 256 = b.val ∧ (s.group g).state = .lapsed then { state := .discard, weak := 0 } else s.group g) ∧
      unchangedBut [.bank b, .account b, .arb b, .groups] s (s.bankOffEffect b) := by
  have hoff : (s.isReady b && (s.bank b).op.isSome) = false := by
    rcases hb with hb | hb
    · simp [State.isReady, hb]
    · simp only [State.isFree, Bool.and_eq_true] at hb
      simp [Option.isNone_iff_eq_none.1 hb.2]
  have hgroup := fun g => s.discardLapsed_group b g hwf
  have hdis := s.discardGroups_frame (runGroups (b.val * 256) 256) [.lapsed]
  rw [State.bankOffEffect, hoff]
  generalize s.discardGroups (runGroups (b.val * 256) 256) [.lapsed] = t at hgroup hdis
  have hbank : t.bank b = s.bank b := hdis (.bank b) (by simp)
  have harb : t.arb b = s.arb b := hdis (.arb b) (by simp)
  have hgo : t.goOff b = t.wentOff b := t.goOff_none b (by rw [State.noRequests, harb]; exact hn)
  have hframe := t.wentOff_frame b
  simp only [Bool.false_eq_true, if_false, hgo]
  refine ⟨t.wentOff_bank b, t.wentOff_account b, ?_, fun g => ?_, (hdis.mono (by simp)).andThen hframe (by simp)⟩
  · rw [t.wentOff_arb b, hbank, harb]
  · rw [← hgroup g, State.group, State.group, hframe .groups (by simp)]

/-- What BANK_OFF leaves of an operating bank without data: the switch-off waits, and the cursor skips unless a REFRESH is in flight (R8,
R55). -/
theorem State.bankOffEffect_waits (s : State) (b : BankNo) (o : Op) (hwf : s.tablesWf) (hm : s.maySwitchOff b = true)
    (hr : s.isReady b = true) (ho : (s.bank b).op = some o) (hlow : -4 ≤ (s.account b).balance) :
    (s.bankOffEffect b).bank b = { s.bank b with offWaiting := true } ∧
      (∀ g, (s.bankOffEffect b).group g =
        if g / 256 = b.val ∧ (s.group g).state = .lapsed then { state := .discard, weak := 0 } else s.group g) ∧
      (s.bankOffEffect b).account b = (if o.kind = .refresh then s.account b
        else { balance := -4, cursor := (s.account b).cursor + BitVec.ofNat 8 ((s.account b).balance + 4).toNat }) ∧
      unchangedBut [.bank b, .account b, .groups] s (s.bankOffEffect b) := by
  have hon : (s.isReady b && (s.bank b).op.isSome) = true := by simp [hr, ho]
  have hgroup := fun g => s.discardLapsed_group b g hwf
  have hdis := s.discardGroups_frame (runGroups (b.val * 256) 256) [.lapsed]
  rw [State.bankOffEffect, hon]
  generalize s.discardGroups (runGroups (b.val * 256) 256) [.lapsed] = t at hgroup hdis
  have hbank : t.bank b = s.bank b := hdis (.bank b) (by simp)
  have hacc : t.account b = s.account b := hdis (.account b) (by simp)
  simp only [if_true, hbank]
  have hwait : unchangedBut [.bank b, .groups] s (t.setBank b { s.bank b with offWaiting := true }) :=
    (hdis.mono (by simp)).andThen (State.setBank_frame _ b _) (by simp)
  have hub : (t.setBank b { s.bank b with offWaiting := true }).bank b = { s.bank b with offWaiting := true } := by
    rw [State.setBank_bank, if_pos rfl]
  have hua : (t.setBank b { s.bank b with offWaiting := true }).account b = s.account b := hacc
  have hug : ∀ g, (t.setBank b { s.bank b with offWaiting := true }).group g = _ := hgroup
  generalize t.setBank b { s.bank b with offWaiting := true } = u at hwait hub hua hug
  have hskip := u.applySkip_frame b
  refine ⟨(hskip (.bank b) (by simp)).trans hub, fun g => ?_, ?_, (hwait.mono (by simp)).andThen hskip (by simp)⟩
  · rw [← hug g, State.group, State.group, hskip .groups (by simp)]
  · have href : u.refreshing b = (o.kind == .refresh) := by simp [State.refreshing, hub, ho]
    by_cases hk : o.kind = .refresh
    · rw [if_pos hk, u.applySkip_of_not_due b (u.skipDue_of_needed b (.inl (by simp [href, hk]))), hua]
    · have hready : u.isReady b = true := by simpa [State.isReady, hub] using hr
      rw [if_neg hk, u.applySkip_unneeded b hready (by simp [href, hk]) (by rw [hua]; exact hlow), hua]
      intro k _
      generalize (u.account b).cursor + BitVec.ofNat 8 k = c
      have hc : (b.val * 256 + c.toNat) / 256 = b.val := by
        have := c.isLt
        omega
      rw [State.needsRefresh, globalGroup, hug]
      rcases (s.maySwitchOff_iff b).1 hm c.toNat c.isLt with hd | hd
      · simp [hd]
      · simp [hc, hd]

/-- BANK_OFF is refused for a bank that holds data, or is neither INIT nor READY, or is switching off (R7). -/
theorem State.bankOff_refuses {s : State} {b : BankNo}
    (h : (∃ k < 256, (s.group (b.val * 256 + k)).state ≠ .discard ∧ (s.group (b.val * 256 + k)).state ≠ .lapsed) ∨
      ((s.bank b).state ≠ .init ∧ (s.bank b).state ≠ .ready) ∨
      ((s.bank b).state = .ready ∧ (s.bank b).offWaiting = true)) : s.inUse b = false ∨ s.maySwitchOff b = false := by
  rcases h with ⟨k, hk, hd, hl⟩ | ⟨hi, hr⟩ | ⟨hr, hw⟩
  · refine .inr (Bool.eq_false_iff.2 fun hm => ?_)
    exact ((s.maySwitchOff_iff b).1 hm k hk).elim hd hl
  · refine .inl ?_
    unfold State.inUse
    split <;> simp_all
  · exact .inl (by simp [State.inUse, hr, hw])

/-- Settles O52: what each command answers, then what its effect leaves. -/
theorem bankOnAndOff : Obligations.BankOnAndOff := by
  refine ⟨fun s u hready harg => ?_, fun s u b hready harg => ⟨fun hf hs ho => ?_, fun hf => ?_, fun hf hs ho => ?_,
    fun hwf hs hm hb hw hn => ?_, fun o hwf hs hm hr ho hw hlow _ => ?_, fun hs hbad => ?_⟩⟩
  · have hnone := argBank_none harg
    exact ⟨refused_of_runCommand hready ((s.runCommand_bankOn u).trans (by simp [State.bankOn, State.commanded, hnone])),
      refused_of_runCommand hready ((s.runCommand_bankOff u).trans (by simp [State.bankOff, State.commanded, hnone]))⟩
  · have hrun := (s.runCommand_bankOn u).trans (State.bankOn_ok (s := s.commanded _) harg hf hs ho)
    have heff : unchangedBut [.bank b, .account b] (s.commanded (commandWord u 0x01#8))
        ((s.commanded (commandWord u 0x01#8)).bankOnEffect b) :=
      ((State.setBank_frame _ b _).mono (by simp)).andThen (State.setAccount_frame _ b _) (by simp)
    obtain ⟨t, ht, htaken, hlast, hframe⟩ := taken_of_runCommand hready hrun heff (by simp)
    refine ⟨t, ht, htaken, (hlast (.bank b) (by simp)).trans ?_, (hlast (.account b) (by simp)).trans ?_, hframe⟩
    · rw [State.bankOnEffect, State.setBalance_bank, State.setBank_bank, if_pos rfl]
      rfl
    · rw [State.bankOnEffect, State.setBalance_account, if_pos rfl]
  · exact refused_of_runCommand hready ((s.runCommand_bankOn u).trans (State.bankOn_arg (s := s.commanded _) harg hf))
  · exact refused_of_runCommand hready ((s.runCommand_bankOn u).trans (State.bankOn_state (s := s.commanded _) harg hf hs ho))
  · have huse : s.inUse b = true := by
      rcases hb with hb | hb
      · simp [State.inUse, hb]
      · simp only [State.isFree, State.isReady, Bool.and_eq_true, beq_iff_eq] at hb
        simp [State.inUse, hb.1, hw]
    have hrun := (s.runCommand_bankOff u).trans
      (State.bankOff_ok (s := s.commanded _) harg hs huse ((s.maySwitchOff_iff b).2 hm))
    obtain ⟨hbank, hacc, harb, hgroup, heff⟩ := State.bankOffEffect_atOnce (s.commanded (commandWord u 0x02#8)) b hwf hb hn
    obtain ⟨t, ht, htaken, hlast, hframe⟩ := taken_of_runCommand hready hrun heff (by simp)
    exact ⟨t, ht, htaken, (hlast (.bank b) (by simp)).trans hbank, (hlast (.account b) (by simp)).trans hacc,
      (hlast (.arb b) (by simp)).trans harb, fun g => (group_of_frame hlast (by simp) g).trans (hgroup g), hframe⟩
  · have huse : s.inUse b = true := by
      simp only [State.isReady, beq_iff_eq] at hr
      simp [State.inUse, hr, hw]
    have hmay : s.maySwitchOff b = true := (s.maySwitchOff_iff b).2 hm
    have hrun := (s.runCommand_bankOff u).trans (State.bankOff_ok (s := s.commanded _) harg hs huse hmay)
    obtain ⟨hbank, hgroup, hacc, heff⟩ :=
      State.bankOffEffect_waits (s.commanded (commandWord u 0x02#8)) b o hwf hmay hr ho hlow
    obtain ⟨t, ht, htaken, hlast, hframe⟩ := taken_of_runCommand hready hrun heff (by simp)
    exact ⟨t, ht, htaken, (hlast (.bank b) (by simp)).trans hbank,
      fun g => (group_of_frame hlast (by simp) g).trans (hgroup g), (hlast (.account b) (by simp)).trans hacc, hframe⟩
  · exact refused_of_runCommand hready ((s.runCommand_bankOff u).trans
      (State.bankOff_state (s := s.commanded _) harg hs (State.bankOff_refuses hbad)))

end Sys2Proof.Machine
end

section
-- One thread at a time: the stack of each thread counts against the memory limit of the check.
set_option Elab.async false
/-! SUPPORT. Proofs/Turned.lean: a bank leaves READY and turns away the request that waits there; the work that waits for a free bank. -/

namespace Sys2Proof.Machine

/-! ### The marking of requests that meet -/

/-- At a bank that is not READY nothing meets, nor where arbiter, bank and account stay (R65). -/
theorem State.meet_of_unready {u v : State} {b : BankNo} {ps : List Part} (h : unchangedBut (.arb b :: ps) u v)
    (hps : ∀ c, .arb c ∉ ps ∧ .bank c ∉ ps ∧ .account c ∉ ps) (hb : u.isReady b = false) : u.meet v = v := by
  refine u.meet_of_none v fun c => ?_
  obtain ⟨ha, hk, hr⟩ := hps c
  by_cases hc : c = b
  · subst hc
    simp [State.meetsAt, State.isFree, hb]
  · exact State.meetsAt_congr (h (.arb c) (by simp [hc, ha])) (h (.bank c) (by simp [hk])) (h (.account c) (by simp [hr]))

/-! ### A channel that halts with its own request pending -/

theorem State.withdrawChan_withdrawChan (s : State) (n : ChanNo) : (s.withdrawChan n).withdrawChan n = s.withdrawChan n := by
  have e : ((s.arbs.map fun a => { a with ch := a.ch.set n none }).map fun a => { a with ch := a.ch.set n none }) =
      s.arbs.map fun a => { a with ch := a.ch.set n none } :=
    Four.ext_get fun c => by simp
  rw [State.withdrawChan, State.withdrawChan, e]

/-- The halt withdraws the channel's request (R73, R146). -/
theorem State.haltChan_withdrawChan (s : State) (n : ChanNo) (code : FaultCode) (w : Option WordAddr) :
    (s.withdrawChan n).haltChan n code w = s.haltChan n code w := by
  simp only [State.haltChan, State.dropWork, s.withdrawChan_withdrawChan n, State.withdrawChan_chan]

/-- The fault code of a channel that is turned away (R145). -/
def turnedFault (n : ChanNo) (k : OpKind) (code : FaultCode) : FaultCode := if k = .writeback n then .writeback else code

theorem State.failChan_eq (s : State) (n : ChanNo) (q : Request) (code : FaultCode) (h : q.kind.channel = some n) :
    s.failChan n q code = s.haltChan n (turnedFault n q.kind code) (if q.kind.isData then some q.addr else none) := by
  unfold State.failChan turnedFault
  revert h
  cases q.kind <;> simp +contextual [OpKind.channel, OpKind.isData]

/-- Bank `b` alone holds a request of channel `n`: withdrawing it touches that arbiter only. -/
theorem State.withdrawChan_frame (s : State) (n : ChanNo) (b : BankNo) (h : ∀ c, c ≠ b → (s.arb c).ch.get n = none) :
    unchangedBut [.arb b] s (s.withdrawChan n) := by
  intro p hp
  cases p with
  | arb c =>
    have hc := h c (by simpa using hp)
    show (s.withdrawChan n).arb c = s.arb c
    rw [State.withdrawChan_arb, ← hc, Four.set_get]
  | _ => rfl

/-! ### The NOT_READY answers of a bank that is no longer READY (R74, R75) -/

/-- The request pending at bank `b` alone leaves no other there. -/
theorem State.solePending_none {s : State} {b : BankNo} {r : Requester} {q : Request} (h : s.solePending b r q) {r' : Requester}
    (hr : r' ≠ r) : s.pendingAt b r' = none := by
  cases r' with
  | refresh => rfl
  | ch n => exact h.2 _ (by fin_cases n <;> decide) hr
  | _ => exact h.2 _ (by decide) hr

/-- The answers, where they leave no request of the fill engine or the scrubber to answer. -/
theorem State.answerPending_of_answered {u t : State} {b : BankNo}
    (h : u.forTogether (u.answeredAt b) (fun x v => v.answer b x) = t) (hf : (t.arb b).fill = none)
    (hs : (t.arb b).scrub = none) : u.answerPending b = u.meet t := by
  have he : ({ t.arb b with fill := none, scrub := none } : Arbiter) = t.arb b := by
    cases ha : t.arb b
    simp_all
  have hset : t.setArb b { t.arb b with fill := none, scrub := none } = t := by
    rw [he, State.setArb, State.arb, Four.set_get]
  have hnone : (t.arb b).scrub.isSome = false := by rw [hs, Option.isSome_none]
  simp only [State.answerPending, h, hset, hnone, Bool.false_eq_true, if_false]

section
variable {u : State} {b : BankNo} {q : Request}

theorem State.answeredAt_host (h : u.solePending b .host q) : u.answeredAt b = [.host] := by
  have hc : ∀ n, (u.arb b).ch.get n = none := fun n => State.solePending_none h (r' := .ch n) (by simp)
  have hh : (u.arb b).host = some q := h.1
  simp [State.answeredAt, hh, hc]

theorem State.answeredAt_ch {n : ChanNo} (h : u.solePending b (.ch n) q) : u.answeredAt b = [.ch n] := by
  have hh : (u.arb b).host = none := State.solePending_none h (r' := .host) (by simp)
  have hn : (u.arb b).ch.get n = some q := h.1
  have hc : ∀ m, ((u.arb b).ch.get m).isSome = decide (m = n) := fun m => by
    by_cases hm : m = n
    · simp [hm, hn]
    · have : (u.arb b).ch.get m = none := State.solePending_none h (r' := .ch m) (by simp [hm])
      simp [hm, this]
  have hl : Four.indices.filter (fun m => decide (m = n)) = [n] := by
    clear h hn hc
    revert n
    decide
  simp [State.answeredAt, hh, hc, hl]

theorem State.answeredAt_scrub (h : u.solePending b .scrub q) : u.answeredAt b = [] := by
  have hc : ∀ n, (u.arb b).ch.get n = none := fun n => State.solePending_none h (r' := .ch n) (by simp)
  have hh : (u.arb b).host = none := State.solePending_none h (r' := .host) (by simp)
  simp [State.answeredAt, hh, hc]

/-- A host read that waits at a bank no longer READY ends with HERR (R101). -/
theorem State.answerPending_read (hr : u.isReady b = false) (h : u.solePending b .host q) (hk : q.kind = .hostRead)
    (hq : u.host.queue = []) :
    u.answerPending b = (u.setArb b (withoutRequest .host (u.arb b))).endCycle .error := by
  have hh : (u.arb b).host = some q := h.1
  let t := (u.setArb b (withoutRequest .host (u.arb b))).endCycle .error
  have ht : u.forTogether (u.answeredAt b) (fun x v => v.answer b x) = t := by
    rw [State.answeredAt_host h, State.forTogether_single]
    simp only [State.answer, State.answerHost, hh, hk, if_true]
    exact State.placeHead_nil _ hq
  have harb : t.arb b = withoutRequest .host (u.arb b) := by simp [t, State.setArb_arb]
  have hframe : unchangedBut (.arb b :: [.host]) u t :=
    ((u.setArb_frame b _).mono (by simp)).andThen (State.endCycle_frame _ _) (by simp)
  rw [State.answerPending_of_answered ht, State.meet_of_unready hframe (by simp) hr]
  · rw [harb]
    exact State.solePending_none h (r' := .fill) (by simp)
  · rw [harb]
    exact State.solePending_none h (r' := .scrub) (by simp)

/-- The port and the log after the only queue entry `e` has met a bank that is not READY (R105). -/
def State.headTurnedAway (s : State) (e : HostEntry) : State :=
  { s with host := { s.host with queue := [] }, log := logged s.log (writeFailedFinding e.addr .bankState) }

theorem State.headTurnedAway_frame (s : State) (e : HostEntry) : unchangedBut [.host, .log] s (s.headTurnedAway e) :=
  ((s.withHost_frame { s.host with queue := [] }).mono (by simp)).andThen (State.withLog_frame _ _) (by simp)

theorem State.failHead_only (s : State) (e : HostEntry) (hq : s.host.queue = [e])
    (hl : s.log.records.length < 8) :
    s.failHead .bankState = s.headTurnedAway e := by
  simp only [State.failHead, hq]
  exact State.hand_eq_logged _ _ (coalesces_of_kind_ne _ _ (by simp [writeFailedFinding])) hl

/-- The queue's only entry, at a bank no longer READY, leaves with a WRITE_FAILED record (R105). -/
theorem State.answerPending_head {e : HostEntry} (hr : u.isReady b = false) (h : u.solePending b .host (headRequest e))
    (hq : u.host.queue = [e]) (hl : u.log.records.length < 8) :
    u.answerPending b = (u.setArb b (withoutRequest .host (u.arb b))).headTurnedAway e := by
  have hh : (u.arb b).host = some (headRequest e) := h.1
  have hk : (headRequest e).kind ≠ .hostRead := by
    unfold headRequest
    split <;> simp
  have ht : u.forTogether (u.answeredAt b) (fun x v => v.answer b x) = (u.setArb b (withoutRequest .host (u.arb b))).headTurnedAway e := by
    rw [State.answeredAt_host h, State.forTogether_single]
    simp only [State.answer, State.answerHost, hh, hk, if_false]
    rw [State.failHead_only (u.setArb b _) e hq hl]
    exact State.placeHead_nil _ rfl
  have harb : (u.setArb b (withoutRequest .host (u.arb b))).arb b = withoutRequest .host (u.arb b) := by
    rw [State.setArb_arb, if_pos rfl]
  have hframe : unchangedBut (.arb b :: [.host, .log]) u
      ((u.setArb b (withoutRequest .host (u.arb b))).headTurnedAway e) :=
    ((u.setArb_frame b _).mono (by simp)).andThen (State.headTurnedAway_frame _ e) (by simp)
  rw [State.answerPending_of_answered ht, State.meet_of_unready hframe (by simp) hr]
  · exact (congrArg Arbiter.fill harb).trans (State.solePending_none h (r' := .fill) (by simp))
  · exact (congrArg Arbiter.scrub harb).trans (State.solePending_none h (r' := .scrub) (by simp))

/-- The part after the request `q` of channel `n` has met a bank that is not READY, and the channel has halted (R145, R146). -/
def State.chanTurnedAway (s : State) (n : ChanNo) (q : Request) : State :=
  State.raise { (s.withdrawChan n).setChan n (haltedChan (s.chan n) (turnedFault n q.kind .bankState)) with
    log := logged s.log (channelFinding n (turnedFault n q.kind .bankState) (s.chan n).desc
      (if q.kind.isData then some q.addr else none)) } (.stop n)

theorem State.chanTurnedAway_frame (s : State) (n : ChanNo) (q : Request) (b : BankNo)
    (h : ∀ c, c ≠ b → (s.arb c).ch.get n = none) :
    unchangedBut [.arb b, .chan n, .log, .events] s (s.chanTurnedAway n q) :=
  ((((s.withdrawChan_frame n b h).mono (by simp)).andThen (State.setChan_frame _ n _) (by simp)).andThen
    (State.withLog_frame _ _) (by simp)).andThen (State.raise_frame _ _) (by simp)

/-- A channel whose only request waits at a bank no longer READY halts (R145). -/
theorem State.answerPending_chan {n : ChanNo} (hr : u.isReady b = false) (h : u.solePending b (.ch n) q)
    (hm : u.mayBeTurnedAway b (.ch n) q) :
    u.answerPending b = u.chanTurnedAway n q := by
  obtain ⟨hl, hk, ho, hb, hc⟩ := hm
  have hh : (u.arb b).ch.get n = some q := h.1
  have hnone : ∀ c, ((u.withdrawChan n).arb c).ch.get n = none := fun c => by simp
  have ht : u.forTogether (u.answeredAt b) (fun x v => v.answer b x) =
      u.chanTurnedAway n q := by
    rw [State.answeredAt_ch h, State.forTogether_single]
    simp only [State.answer, State.answerChan, hh]
    rw [State.failChan_eq _ _ _ _ hk, ← State.haltChan_withdrawChan, State.haltChan_lone _ n _ _ hnone ho hb,
      State.hand_eq_logged _ _ (coalesces_of_kind_ne _ _ (by simp [channelFinding])) (by exact hl)]
    rfl
  have hframe : unchangedBut (.arb b :: [.chan n, .log, .events]) u (u.chanTurnedAway n q) := u.chanTurnedAway_frame n q b hc
  rw [State.answerPending_of_answered ht, State.meet_of_unready hframe (by simp) hr]
  · exact (congrArg Arbiter.fill (u.withdrawChan_arb n b)).trans (State.solePending_none h (r' := .fill) (by simp))
  · exact (congrArg Arbiter.scrub (u.withdrawChan_arb n b)).trans (State.solePending_none h (r' := .scrub) (by simp))

/-- Without a credit the scrubber makes no search (R92). -/
theorem State.searchScrub_of_no_credit (s : State) (h : s.scrub.credits = 0) : s.searchScrub = s := by
  simp [State.searchScrub, h]

theorem State.nextScrubRow_frame (s : State) : unchangedBut [.scrub] s s.nextScrubRow := by
  unfold State.nextScrubRow
  dsimp only
  split
  · split <;> exact s.withScrub_frame _
  · exact s.withScrub_frame _

/-- The scrubber, its request turned away with no credit left, passes on and rests (R93). -/
theorem State.answerPending_scrub (hr : u.isReady b = false) (h : u.solePending b .scrub q) (hc : u.scrub.credits = 0) :
    u.answerPending b = ((u.setArb b (withoutRequest .scrub (u.arb b))).nextScrubRow).setScrub .idle := by
  have hs : (u.arb b).scrub = some q := h.1
  have hf : (u.arb b).fill = none := State.solePending_none h (r' := .fill) (by simp)
  have he : ({ u.arb b with fill := none, scrub := none } : Arbiter) = withoutRequest .scrub (u.arb b) := by
    cases ha : u.arb b
    simp_all [withoutRequest]
  let t := ((u.setArb b (withoutRequest .scrub (u.arb b))).nextScrubRow).setScrub .idle
  have hcred : t.scrub.credits = 0 := by
    simp only [t, State.setScrub, State.nextScrubRow]
    split
    · split <;> simp [State.countPass, hc]
    · simp [hc]
  have hframe : unchangedBut (.arb b :: [.scrub]) u t :=
    (((u.setArb_frame b _).mono (by simp)).andThen (State.nextScrubRow_frame _) (by simp)).andThen
      (State.withScrub_frame _ _) (by simp)
  have hsome : (u.arb b).scrub.isSome = true := by rw [hs, Option.isSome_some]
  simp only [State.answerPending, State.answeredAt_scrub h, State.forTogether_nil, hsome, if_true, he, State.passOnScrub]
  rw [State.searchScrub_of_no_credit _ hcred, State.meet_of_unready hframe (by simp) hr]

/-- What a NOT_READY answer leaves of the one request at a bank that is no longer READY (R74, R75). -/
theorem State.answerPending_turnedAway {r : Requester} (hr : u.isReady b = false) (h : u.solePending b r q)
    (hm : u.mayBeTurnedAway b r q) :
    (u.answerPending b).arb b = withoutRequest r (u.arb b) ∧ turnedAway u (u.answerPending b) r q .bankState [.arb b] := by
  obtain ⟨hl, hwho⟩ := id hm
  cases r with
  | refresh | fill => exact hwho.elim
  | host =>
    rcases hwho with ⟨hk, hq⟩ | ⟨e, hq, rfl⟩
    · rw [State.answerPending_read hr h hk hq]
      refine ⟨by simp [State.setArb_arb], ?_⟩
      simp only [turnedAway, hk, if_true]
      exact ⟨rfl, ((u.setArb_frame b _).mono (by simp)).andThen (State.endCycle_frame _ _) (by simp)⟩
    · have hk : (headRequest e).kind ≠ .hostRead := by
        unfold headRequest
        split <;> simp
      rw [State.answerPending_head hr h hq hl]
      refine ⟨(State.setArb_arb u b b _).trans (if_pos rfl), ?_⟩
      simp only [turnedAway, hk, if_false]
      exact ⟨rfl, rfl, ((u.setArb_frame b _).mono (by simp)).andThen (State.headTurnedAway_frame _ e) (by simp)⟩
  | ch n =>
    obtain ⟨-, -, -, -, hc⟩ := id hm
    rw [State.answerPending_chan hr h hm]
    exact ⟨u.withdrawChan_arb n b, (State.setChan_chan _ n n _).trans (if_pos rfl), rfl, rfl,
      (u.chanTurnedAway_frame n q b hc).mono (by simp)⟩
  | scrub =>
    rw [State.answerPending_scrub hr h hwho]
    have hframe := State.nextScrubRow_frame (u.setArb b (withoutRequest .scrub (u.arb b)))
    refine ⟨?_, fun hrow => ?_, fun hrow hbank => ?_, fun hrow hbank => ?_,
      (((u.setArb_frame b _).mono (by simp)).andThen hframe (by simp)).andThen (State.withScrub_frame _ _) (by simp)⟩
    · exact (hframe (.arb b) (by simp)).trans ((State.setArb_arb u b b _).trans (if_pos rfl))
    · simp [State.setScrub, State.nextScrubRow, hrow]
    · simp [State.setScrub, State.nextScrubRow, hrow, hbank]
    · simp [State.setScrub, State.nextScrubRow, State.countPass, hrow, hbank]

end

/-! ### Work that waits for a free bank -/

/-- What a request that is turned away leaves is read from the blocks of its requester and the log, which other work at the bank, before and
after, does not touch. -/
theorem turnedAway_within {s u v t : State} {r : Requester} {q : Request} {code : FaultCode} {ps qs : List Part}
    (h : turnedAway u v r q code qs) (hsu : unchangedBut ps s u) (hvt : unchangedBut ps v t) (hqs : qs ⊆ ps)
    (hps : ∀ n, ∀ p ∈ [Part.host, .log, .events, .scrub, .chan n], p ∉ ps) : turnedAway s t r q code ps := by
  have hu : ∀ n, ∀ p ∈ [Part.host, .log, .events, .scrub, .chan n], p.same s u := fun n p hp => hsu p (hps n p hp)
  have hv : ∀ n, ∀ p ∈ [Part.host, .log, .events, .scrub, .chan n], p.same v t := fun n p hp => hvt p (hps n p hp)
  have hhost : u.host = s.host := hu 0 .host (by simp)
  have hlog : u.log = s.log := hu 0 .log (by simp)
  have hevents : u.events = s.events := hu 0 .events (by simp)
  have hscrub : u.scrub = s.scrub := hu 0 .scrub (by simp)
  have hchan : ∀ n, u.chan n = s.chan n := fun n => hu n (.chan n) (by simp)
  have hframe : ∀ rs, unchangedBut (rs ++ qs) u v → unchangedBut (rs ++ ps) s t := fun rs hf =>
    ((hsu.mono (by simp)).andThen hf (by grind)).andThen hvt (by simp)
  cases r with
  | refresh | fill => exact h
  | host =>
    simp only [turnedAway] at h ⊢
    split
    · rename_i hk
      rw [if_pos hk, hhost] at h
      exact ⟨(hv 0 .host (by simp)).trans h.1, hframe [.host] h.2⟩
    · rename_i hk
      rw [if_neg hk, hhost, hlog] at h
      obtain ⟨h1, h2, hf⟩ := h
      exact ⟨(hv 0 .host (by simp)).trans h1, (hv 0 .log (by simp)).trans h2, hframe [.host, .log] hf⟩
  | ch n =>
    simp only [turnedAway, hchan, hlog, hevents] at h ⊢
    obtain ⟨h1, h2, h3, hf⟩ := h
    exact ⟨(hv n (.chan n) (by simp)).trans h1, (hv n .log (by simp)).trans h2, (hv n .events (by simp)).trans h3,
      hframe [.chan n, .log, .events] hf⟩
  | scrub =>
    simp only [turnedAway, hscrub] at h ⊢
    obtain ⟨h1, h2, h3, hf⟩ := h
    have ht : t.scrub = v.scrub := hv 0 .scrub (by simp)
    exact ⟨fun hr => ht.trans (h1 hr), fun hr hb => ht.trans (h2 hr hb), fun hr hb => ht.trans (h3 hr hb),
      hframe [.scrub] hf⟩

/-- Only the blocks of requesters and the log change beside the parts named. -/
theorem turnedAway_frame {s t : State} {r : Requester} {q : Request} {code : FaultCode} {ps : List Part}
    (h : turnedAway s t r q code ps) : unchangedBut (.host :: .log :: .events :: .scrub :: (allChans ++ ps)) s t := by
  cases r with
  | refresh | fill => exact h.elim
  | host =>
    simp only [turnedAway] at h
    split at h
    · exact h.2.mono (by grind)
    · exact h.2.2.mono (by grind)
  | ch n =>
    obtain ⟨_, _, _, hf⟩ := h
    exact hf.mono (by grind [mem_allChans])
  | scrub =>
    obtain ⟨_, _, _, hf⟩ := h
    exact hf.mono (by grind)

/-- The conditions of a request that may be turned away survive work at its free bank that begins no channel operation. -/
theorem mayBeTurnedAway_of_frame {s u : State} {b : BankNo} {r : Requester} {q : Request}
    (h : s.mayBeTurnedAway b r q) (hf : unchangedBut [.bank b, .arb b, .account b] s u)
    (ho : (u.bank b).op.all (fun o => o.kind.channel == none) = true) : u.mayBeTurnedAway b r q := by
  obtain ⟨hl, hr⟩ := h
  have hlog : u.log = s.log := hf .log (by simp)
  have hhost : u.host = s.host := hf .host (by simp)
  have hscrub : u.scrub = s.scrub := hf .scrub (by simp)
  refine ⟨by rw [hlog]; exact hl, ?_⟩
  cases r with
  | refresh | fill => exact hr
  | host => rwa [hhost]
  | scrub => rwa [hscrub]
  | ch n =>
    obtain ⟨hk, hop, hbeat, hc⟩ := hr
    have hstream : u.stream = s.stream := hf .stream (by simp)
    refine ⟨hk, ?_, by rw [State.beatOf, hstream]; exact hbeat, fun c hne => ?_⟩
    · simp only [State.chanOp, State.anyOp, List.any_eq_false] at hop ⊢
      intro c hin
      by_cases hcb : c = b
      · subst hcb
        cases hb : (u.bank c).op with
        | none => simp
        | some o =>
          rw [hb] at ho
          simp only [Option.all_some, beq_iff_eq] at ho
          simp [ho]
      · rw [show u.bank c = s.bank c from hf (.bank c) (by simp [hcb])]
        exact hop c hin
    · rw [show u.arb c = s.arb c from hf (.arb c) (by simp [hne])]
      exact hc c hne

/-- A closing row leaves the requests as they are. -/
theorem solePending_of_afterClose {s u : State} {b : BankNo} {r : Requester} {q : Request} {k : Bank}
    (ha : u.arb b = afterClose k (s.arb b)) (h : s.solePending b r q) : u.solePending b r q := by
  have hp : ∀ r, u.pendingAt b r = s.pendingAt b r := fun r => by
    cases r <;> simp only [State.pendingAt, ha, afterClose] <;> split <;> rfl
  simpa only [State.solePending, hp] using h

theorem withoutRequest_afterClose (r : Requester) (k : Bank) (a : Arbiter) :
    withoutRequest r (afterClose k a) = afterClose k (withoutRequest r a) := by
  unfold afterClose
  split <;> cases r <;> rfl

/-- The answer to the request at bank `b`, after other work there has closed the row and taken the bank out of READY. -/
theorem State.answerPending_after {s u : State} {b : BankNo} {r : Requester} {q : Request} {ps : List Part}
    (hr : u.isReady b = false) (hs : s.solePending b r q) (hm : s.mayBeTurnedAway b r q) (hf : unchangedBut ps s u)
    (hps : ps ⊆ [.bank b, .arb b, .account b]) (hb : .arb b ∈ ps) (ha : u.arb b = afterClose (s.bank b) (s.arb b))
    (ho : (u.bank b).op.all (fun o => o.kind.channel == none) = true) :
    (u.answerPending b).arb b = afterClose (s.bank b) (withoutRequest r (s.arb b)) ∧
      turnedAway s (u.answerPending b) r q .bankState ps ∧
      unchangedBut (.host :: .log :: .events :: .scrub :: (allChans ++ [.arb b])) u (u.answerPending b) := by
  obtain ⟨harb, hturn⟩ := State.answerPending_turnedAway hr (solePending_of_afterClose ha hs)
    (mayBeTurnedAway_of_frame hm (hf.mono hps) ho)
  refine ⟨by rw [harb, ha, withoutRequest_afterClose],
    turnedAway_within hturn hf (unchangedBut.refl _ _) (by simpa using hb) fun n p hp hin => ?_, turnedAway_frame hturn⟩
  have := hps hin
  simp at hp this
  grind

/-- A switch-off counts the bank settled in ENTERING (R18). -/
theorem State.switchOff_retention (s : State) (b : BankNo) (h : (s.goOff b).retention = s.retention) :
    (s.switchOff b).retention = (if s.retention.state = .entering then
      { s.retention with unsettled := s.retention.unsettled - 1 } else s.retention) := by
  unfold State.switchOff
  split <;> simp [h]

theorem State.switchOff_frame (s : State) (b : BankNo) : unchangedBut [.retention] (s.goOff b) (s.switchOff b) := by
  unfold State.switchOff
  dsimp only
  split
  · exact State.withRetention_frame _ _
  · exact .refl _ _

/-- Bank `b` in ENTERING, its ordered operation begun, the requests pending there not answered yet (R18). -/
def State.entered (s : State) (b : BankNo) (x : RetentionOrder) : State :=
  (s.startClosed b (orderKind x) 0#22).setBank b
    { (s.startClosed b (orderKind x) 0#22).bank b with state := .entering, order := none }

theorem State.beginOrder_eq (s : State) (b : BankNo) (x : RetentionOrder) :
    s.beginOrder b x = (s.entered b x).answerPending b := rfl

theorem State.entered_bank (s : State) (b : BankNo) (x : RetentionOrder) :
    (s.entered b x).bank b = { s.bank b with
      state := .entering, openRow := none, holdTimer := none, op := some (s.newOp b (orderKind x) 0#22 0 []), order := none } := by
  rw [State.entered, State.setBank_bank, if_pos rfl, State.startClosed_bank]

theorem State.entered_arb (s : State) (b : BankNo) (x : RetentionOrder) :
    (s.entered b x).arb b = afterClose (s.bank b) (s.arb b) := by
  rw [State.entered, State.setBank_arb, State.startClosed_arb]

theorem State.entered_frame (s : State) (b : BankNo) (x : RetentionOrder) :
    unchangedBut [.bank b, .arb b] s (s.entered b x) :=
  (s.startClosed_frame b _ _).andThen (State.setBank_frame _ b _) (by simp)

/-- The ENTRY and the POWER-DOWN take T_CLOSE, and as long again where a row closes first (R11, R18). -/
theorem startPeriods_orderKind (t : Timing) (row : Option RowNo) (x : RetentionOrder) :
    startPeriods t row (orderKind x) 0#22 0 = if row.isSome then 2 * t.tClose else t.tClose := by
  have htwice : t.tClose + t.tClose = 2 * t.tClose := (Nat.two_mul _).symm
  cases x with
  | selfRefreshEntry | powerDown => cases row <;> simp [startPeriods, orderKind, htwice]

/-- Settles O36. -/
theorem waitingBankWorkBegins : Obligations.WaitingBankWorkBegins := by
  intro s b hreset
  refine ⟨fun hinit hop hsettle => ?_, fun hfree hwait => ?_, fun x hfree hwait horder => ?_⟩
  · have hdue : s.ownDue (.wakeStart b) = true := by
      simp [State.ownDue, hreset, State.wakeDue, hinit, hop, Config.settleTicks, hsettle]
    exact ⟨_, s.newOp b .wake 0#22 0 [], next_ownIfDue hdue, rfl, rfl, rfl, s.startClosed_bank b _ _, s.startClosed_arb b _ _,
      s.startClosed_frame b _ _⟩
  · have hdue : s.ownDue (.deferredSwitchOff b) = true := by
      simp [State.ownDue, hreset, State.switchOffDue, hfree, hwait]
    have hwent := s.wentOff_frame b
    have hlast := s.switchOff_frame b
    refine ⟨fun hn => ?_, fun r q hs hm => ?_⟩
    · have hgo := s.goOff_none b hn
      refine ⟨_, next_ownIfDue hdue, ⟨(hlast (.bank b) (by simp)).trans ?_, (hlast (.account b) (by simp)).trans ?_,
        s.switchOff_retention b ?_⟩, (hlast (.arb b) (by simp)).trans ?_, ?_⟩
      · rw [hgo, s.wentOff_bank b]
      · rw [hgo, s.wentOff_account b]
      · rw [hgo]
        exact hwent .retention (by simp)
      · rw [hgo, s.wentOff_arb b]
      · exact (hwent.mono (by simp)).andThen (hgo ▸ hlast) (by simp)
    · have hbank := s.wentOff_bank b
      obtain ⟨harb, hturn, hkeep⟩ := State.answerPending_after (u := s.wentOff b) (by simp [State.isReady, hbank, resetBank])
        hs hm hwent (by simp) (by simp) (s.wentOff_arb b) (by simp [hbank, resetBank])
      rw [← s.goOff_eq b] at harb hturn hkeep
      refine ⟨_, next_ownIfDue hdue, ⟨?_, ?_, s.switchOff_retention b ?_⟩, (hlast (.arb b) (by simp)).trans harb,
        turnedAway_within hturn (unchangedBut.refl _ _) (hlast.mono (by simp)) (by simp) (by simp)⟩
      · exact ((hlast (.bank b) (by simp)).trans (hkeep (.bank b) (by simp [allChans]))).trans hbank
      · exact ((hlast (.account b) (by simp)).trans (hkeep (.account b) (by simp [allChans]))).trans (s.wentOff_account b)
      · exact (hkeep .retention (by simp [allChans])).trans (hwent .retention (by simp))
  · have hdue : s.ownDue (.retentionOrderStart b) = true := by
      simp [State.ownDue, hreset, State.orderDue, hfree, hwait, horder]
    have hstart : s.ownStep (.retentionOrderStart b) = (s.entered b x).answerPending b := by
      simp only [State.ownStep, State.startOrder, horder, State.beginOrder_eq]
    have hbank := s.entered_bank b x
    have hframe := s.entered_frame b x
    have hperiods : (s.newOp b (orderKind x) 0#22 0 []).periods = _ :=
      startPeriods_orderKind s.timing (s.bank b).openRow x
    refine ⟨fun hn => ?_, fun r q hs hm => ?_⟩
    · have hnone : (s.entered b x).answerPending b = s.entered b x :=
        State.answerPending_none _ b (noRequests_of_afterClose (s.entered_arb b x) hn)
      refine ⟨_, next_ownIfDue hdue, ⟨_, by cases x <;> rfl, rfl, hperiods, ?_⟩, ?_, ?_⟩ <;> rw [hstart, hnone]
      · exact hbank
      · exact s.entered_arb b x
      · exact hframe
    · obtain ⟨harb, hturn, hkeep⟩ := State.answerPending_after (u := s.entered b x) (by simp [State.isReady, hbank])
        hs hm hframe (by simp) (by simp) (s.entered_arb b x) (by cases x <;> simp [hbank, State.newOp, orderKind, OpKind.channel])
      refine ⟨_, next_ownIfDue hdue, ⟨_, by cases x <;> rfl, rfl, hperiods, ?_⟩, ?_, ?_⟩ <;> rw [hstart]
      · exact (hkeep (.bank b) (by simp [allChans])).trans hbank
      · exact harb
      · exact hturn

end Sys2Proof.Machine
end

section
-- One thread at a time: the stack of each thread counts against the memory limit of the check.
set_option Elab.async false
/-! SUPPORT. Proofs/Tick.lean: a refresh tick without an overrun. -/

namespace Sys2Proof.Machine

/-! ### A tick at one bank (R5, R47) -/

/-- What a tick without an overrun leaves at bank `b`. -/
structure ticked (s t : State) (b : BankNo) : Prop where
  earns : s.isReady b = true → (s.refreshing b = true ∨ s.needsRefresh (s.cursorGroup b) = true) →
    t.account b = { balance := (s.account b).balance + 1, cursor := (s.account b).cursor }
  movesOn : s.isReady b = true → s.refreshing b = false → s.needsRefresh (s.cursorGroup b) = false →
    (s.account b).balance = -4 → t.account b = { balance := -4, cursor := (s.account b).cursor + 1#8 }
  holds : s.isReady b = false → t.account b = s.account b
  settles : (s.bank b).state = .init → (s.bank b).op = none → (s.bank b).settle < 8 →
    t.bank b = { s.bank b with settle := (s.bank b).settle + 1 }
  stays : (s.bank b).state ≠ .init ∨ (s.bank b).op ≠ none → t.bank b = s.bank b

/-- Only the Row Group Table, the bank and its account bear on a tick there. -/
theorem ticked_congr {s u t v : State} {b : BankNo} (h : ticked u v b) (hg : u.groups = s.groups) (hk : u.bank b = s.bank b)
    (ha : u.account b = s.account b) (hk' : t.bank b = v.bank b) (ha' : t.account b = v.account b) : ticked s t b := by
  have hgroup : ∀ g, u.group g = s.group g := fun g => by rw [State.group, hg, State.group]
  obtain ⟨h1, h2, h3, h4, h5⟩ := h
  simp only [State.isReady, State.refreshing, State.cursorGroup, State.needsRefresh, hgroup, hk, ha, ← hk', ← ha'] at h1 h2 h3 h4 h5
  exact ⟨h1, h2, h3, h4, h5⟩

/-- A READY bank below +8 earns one obligation, and the skipping rule applies (R47, R55). -/
theorem State.tickBank_ready (s : State) (b : BankNo) (hr : s.isReady b = true) (h8 : (s.account b).balance < 8) :
    s.tickBank b = (s.setAccount b { s.account b with balance := (s.account b).balance + 1 }).applySkip b := by
  simp only [State.isReady, beq_iff_eq] at hr
  simp only [State.tickBank, hr, h8, if_true]

theorem State.tickBank_init (s : State) (b : BankNo) (hi : (s.bank b).state = .init) :
    s.tickBank b = if (s.bank b).op.isNone && (s.bank b).settle < Config.settleTicks then
      s.setBank b { s.bank b with settle := (s.bank b).settle + 1 } else s := by
  simp only [State.tickBank, hi]

theorem State.tickBank_other (s : State) (b : BankNo) (hr : s.isReady b = false) (hi : (s.bank b).state ≠ .init) :
    s.tickBank b = s := by
  unfold State.tickBank
  cases hk : (s.bank b).state <;> simp_all [State.isReady]

theorem State.tickBank_frame (s : State) (b : BankNo) (h8 : s.isReady b = true → (s.account b).balance < 8) :
    unchangedBut [.bank b, .account b] s (s.tickBank b) := by
  by_cases hr : s.isReady b = true
  · rw [s.tickBank_ready b hr (h8 hr)]
    exact ((s.setAccount_frame b _).mono (by simp)).andThen (State.applySkip_frame _ b) (by simp)
  · by_cases hi : (s.bank b).state = .init
    · rw [s.tickBank_init b hi]
      split
      · exact (s.setBank_frame b _).mono (by simp)
      · exact .refl _ s
    · rw [s.tickBank_other b (by simpa using hr) hi]
      exact .refl _ s

theorem State.tickBank_ticked (s : State) (b : BankNo) (h8 : s.isReady b = true → (s.account b).balance < 8) :
    ticked s (s.tickBank b) b := by
  by_cases hr : s.isReady b = true
  · have hst : (s.bank b).state = .ready := by simpa [State.isReady] using hr
    rw [s.tickBank_ready b hr (h8 hr)]
    let u := s.setAccount b { s.account b with balance := (s.account b).balance + 1 }
    have hacc : u.account b = { s.account b with balance := (s.account b).balance + 1 } := by
      rw [State.setAccount_account, if_pos rfl]
    have hcur : u.cursorGroup b = s.cursorGroup b := by rw [State.cursorGroup, hacc, State.cursorGroup]
    have hbank : (u.applySkip b).bank b = s.bank b := u.applySkip_frame b (.bank b) (by simp)
    refine ⟨fun _ hneed => ?_, fun _ href hneed hrest => ?_, fun h => ?_, fun h => ?_, fun _ => hbank⟩
    · have hdue : u.skipDue b = false := u.skipDue_of_needed b (hneed.imp id fun hn => by rw [hcur]; exact hn)
      rw [u.applySkip_of_not_due b hdue, hacc]
    · have hone : (u.account b).balance = -3 := by rw [hacc, hrest]; rfl
      rw [u.applySkip_unneeded b hr href (by omega), hone, hacc]
      · rfl
      · intro k hk
        have hk0 : k = 0 := by omega
        subst hk0
        rw [hacc]
        show s.needsRefresh _ = false
        simpa [State.cursorGroup] using hneed
    · simp [hr] at h
    · simp [hst] at h
  · by_cases hi : (s.bank b).state = .init
    · rw [s.tickBank_init b hi]
      refine ⟨fun h => absurd h hr, fun h => absurd h hr, fun _ => ?_, fun _ hop h8' => ?_, fun h => ?_⟩
      · split <;> rfl
      · simp [hop, Config.settleTicks, h8', State.setBank_bank]
      · have hop : (s.bank b).op.isNone = false := by
          rcases h with h | h
          · exact absurd hi h
          · exact Bool.eq_false_iff.2 fun hn => h (Option.isNone_iff_eq_none.1 hn)
        simp [hop]
    · rw [s.tickBank_other b (by simpa using hr) hi]
      exact ⟨fun h => absurd h hr, fun h => absurd h hr, fun _ => rfl, fun h => absurd h hi, fun _ => rfl⟩

/-! ### A tick at every bank -/

/-- The banks are ticked one after another, and none bears on another. -/
theorem State.tickBanks_ticked (l : List BankNo) : ∀ s : State, l.Nodup →
    (∀ b ∈ l, s.isReady b = true → (s.account b).balance < 8) →
    unchangedBut (l.map Part.bank ++ l.map Part.account) s (l.foldl (fun t b => t.tickBank b) s) ∧
      ∀ b ∈ l, ticked s (l.foldl (fun t b => t.tickBank b) s) b := by
  induction l with
  | nil => exact fun s _ _ => ⟨.refl _ s, by simp⟩
  | cons c rest ih =>
    intro s hnd h8
    obtain ⟨hc, hnd⟩ := List.nodup_cons.1 hnd
    have hstep := s.tickBank_frame c (h8 c (by simp))
    have hbank : ∀ b ∈ rest, (s.tickBank c).bank b = s.bank b := fun b hb =>
      hstep (.bank b) (by simp; rintro rfl; exact hc hb)
    have hacc : ∀ b ∈ rest, (s.tickBank c).account b = s.account b := fun b hb =>
      hstep (.account b) (by simp; rintro rfl; exact hc hb)
    obtain ⟨hrest, hticked⟩ := ih (s.tickBank c) hnd fun b hb => by
      rw [State.isReady, hbank b hb, hacc b hb]
      exact h8 b (by simp [hb])
    refine ⟨(hstep.mono (by simp)).andThen hrest (by grind), fun b hb => ?_⟩
    rcases List.mem_cons.1 hb with rfl | hb
    · exact ticked_congr (s.tickBank_ticked b (h8 b (by simp))) rfl rfl rfl (hrest (.bank b) (by simp [hc]))
        (hrest (.account b) (by simp [hc]))
    · exact ticked_congr (hticked b hb) (hstep .groups (by simp)) (hbank b hb) (hacc b hb) rfl rfl

/-! ### The scrubber at a tick (R91, R92) -/

/-- A search moves the scrubber alone, and keeps its credits. -/
theorem State.findScrub_eq {s t : State} (h : s.findScrub = some t) :
    ∃ x : Scrubber, t = { s with scrub := x } ∧ x.credits = s.scrub.credits := by
  unfold State.findScrub at h
  dsimp only at h
  split at h
  · cases h
    exact ⟨s.scrub, rfl, rfl⟩
  · split at h
    · cases h
      exact ⟨_, rfl, rfl⟩
    · split at h
      · cases h
        exact ⟨_, rfl, rfl⟩
      · cases h

/-- Placing the SCRUB request touches the scrubber, not its credits, and the scrubber's place in one arbiter. -/
theorem State.searchScrub_rule (s : State) :
    s.searchScrub.scrub.credits = s.scrub.credits ∧
      (∀ b, { s.searchScrub.arb b with scrub := none } = { s.arb b with scrub := none }) ∧
      unchangedBut (.scrub :: allArbs) s s.searchScrub := by
  unfold State.searchScrub
  split
  · split
    · rename_i t ht
      obtain ⟨x, rfl, hx⟩ := State.findScrub_eq ht
      refine ⟨hx, fun b => ?_, ?_⟩
      · show { (State.setArb _ _ _).arb b with scrub := none } = _
        rw [State.setArb_arb]
        split
        · rename_i hb
          rw [hb]
          rfl
        · rfl
      · exact (((s.withScrub_frame x).mono (by simp)).andThen (State.setArb_frame _ _ _) (by simp)).andThen
          (State.withScrub_frame _ _) (by simp)
    · exact ⟨rfl, fun _ => rfl, .refl _ s⟩
  · exact ⟨rfl, fun _ => rfl, .refl _ s⟩

/-- Settles O12. -/
theorem tickEarnsObligations : Obligations.TickEarnsObligations := by
  intro s hrest h8
  let u : State := { s with tick := { s.tick with count := 0 } }
  let v := Four.indices.foldl (fun t b => t.tickBank b) u
  have hu : unchangedBut [.tick] s u := s.withTick_frame _
  obtain ⟨hv, hticked⟩ := State.tickBanks_ticked Four.indices u (by decide) fun b _ => h8 b
  let w : State := { v with scrub := { v.scrub with credits := min Config.creditCap (v.scrub.credits + v.config.scrubRate) } }
  obtain ⟨hcred, harb, hsearch⟩ := w.searchScrub_rule
  obtain ⟨a, hmeet, hmet⟩ := State.meet_eq s w.searchScrub
  have hstart : unchangedBut ([.tick, .scrub] ++ allBanks ++ allAccounts) s w :=
    (((s.withTick_frame _).mono (by simp)).andThen hv (by grind [allBanks, allAccounts])).andThen
      (v.withScrub_frame _) (by simp)
  have hkeep : unchangedBut (.scrub :: allArbs) w { w.searchScrub with arbs := a } :=
    hsearch.andThen (State.withArbs_frame _ a) (by simp)
  have hat : ∀ b, ticked s { w.searchScrub with arbs := a } b := fun b =>
    ticked_congr (hticked b (Four.mem_indices b)) rfl rfl rfl (hkeep (.bank b) (by simp [allArbs]))
      (hkeep (.account b) (by simp [allArbs]))
  have hscrub : v.scrub = s.scrub := hv .scrub (by simp)
  have hconfig : v.config = s.config := hv .config (by simp)
  refine ⟨_, next_happen hrest, ?_⟩
  rw [show s.refreshTick = { w.searchScrub with arbs := a } from hmeet]
  refine ⟨?_, fun b => (hat b).earns, fun b => (hat b).movesOn, fun b => (hat b).holds, fun b => (hat b).settles,
    fun b => (hat b).stays, ?_, fun b => ?_, (hstart.mono (by grind)).andThen hkeep (by grind)⟩
  · exact (hkeep .tick (by simp [allArbs])).trans (hv .tick (by simp))
  · refine hcred.trans ?_
    show min Config.creditCap (v.scrub.credits + v.config.scrubRate) = _
    rw [hscrub, hconfig]
    rfl
  · have hw : w.arb b = s.arb b := hstart (.arb b) (by simp [allBanks, allAccounts])
    calc { a.get b with scrub := none, met := false }
        = { w.searchScrub.arb b with scrub := none, met := false } :=
          congrArg (fun x : Arbiter => { x with scrub := none }) (hmet b)
      _ = { w.arb b with scrub := none, met := false } := congrArg (fun x : Arbiter => { x with met := false }) (harb b)
      _ = { s.arb b with scrub := none, met := false } := by rw [hw]

end Sys2Proof.Machine
end

section
-- One thread at a time: the stack of each thread counts against the memory limit of the check.
set_option Elab.async false
/-! SUPPORT. Proofs/GrantSafety.lean: what happens around a grant reads KEEP groups of READY banks only: a relation that every step of the
requesters keeps, and the operation that a grant begins. -/

namespace Sys2Proof.Machine

/-- From `s` to `t` no bank changes its readiness, no operation begins and no group becomes KEEP. -/
structure Spares (s t : State) : Prop where
  tables : s.tablesWf → t.tablesWf
  ready : ∀ c, t.isReady c = s.isReady c
  ops : ∀ c o, (t.bank c).op = some o → ∃ p, (s.bank c).op = some p ∧ p.kind = o.kind ∧ p.addr = o.addr
  keep : s.tablesWf → ∀ g, (t.group g).state = .keep → (s.group g).state = .keep

namespace Spares
variable {s t u : State}

theorem refl (s : State) : Spares s s := ⟨id, fun _ => rfl, fun _ o ho => ⟨o, ho, rfl, rfl⟩, fun _ _ => id⟩

theorem trans (h : Spares s t) (h' : Spares t u) : Spares s u where
  tables := h'.tables ∘ h.tables
  ready c := (h'.ready c).trans (h.ready c)
  ops c o ho := by
    obtain ⟨p, hp, hk, ha⟩ := h'.ops c o ho
    obtain ⟨q, hq, hk', ha'⟩ := h.ops c p hp
    exact ⟨q, hq, hk'.trans hk, ha'.trans ha⟩
  keep hwf g hg := h.keep hwf g (h'.keep (h.tables hwf) g hg)

/-- Work that touches no bank, no group and no word. -/
theorem andFrame {ps : List Part} (h : Spares s t) (hf : unchangedBut ps t u) (ha : .array ∉ ps) (hg : .groups ∉ ps)
    (hb : ∀ c, .bank c ∉ ps) : Spares s u := by
  have hgroups : u.groups = t.groups := hf .groups hg
  have harray : u.array = t.array := hf .array ha
  have hbank : ∀ c, u.bank c = t.bank c := fun c => hf (.bank c) (hb c)
  refine h.trans ⟨?_, fun c => by rw [State.isReady, hbank, State.isReady], fun c o ho => ⟨o, by rw [← hbank c, ho], rfl, rfl⟩,
    fun _ g hk => by rwa [group_of_frame hf hg g] at hk⟩
  rintro ⟨h1, h2⟩
  exact ⟨harray ▸ h1, hgroups ▸ h2⟩

/-- Operations in flight may be marked. -/
theorem markResidual (h : Spares s t) (n : ChanNo) : Spares s (t.markResidual n) := by
  have hbank : ∀ c, (t.markResidual n).bank c = { t.bank c with
      op := (t.bank c).op.map fun o => if o.kind.channel = some n then { o with residual := true } else o } := fun c =>
    Four.get_map _ _ c
  refine h.trans ⟨id, fun c => by rw [State.isReady, hbank, State.isReady], fun c o ho => ?_, fun _ _ => id⟩
  rw [hbank] at ho
  obtain ⟨p, hp, rfl⟩ := Option.map_eq_some_iff.1 ho
  refine ⟨p, hp, ?_, ?_⟩ <;> split <;> rfl

theorem haltChan (h : Spares s t) (n : ChanNo) (code : FaultCode) (w : Option WordAddr) : Spares s (t.haltChan n code w) := by
  have h1 : Spares s ((t.withdrawChan n).markResidual n) :=
    (h.andFrame (t.withArbs_frame _) (by simp [allArbs]) (by simp [allArbs]) (by simp [allArbs])).markResidual n
  exact (((h1.andFrame (State.setChan_frame _ n _) (by simp) (by simp) (by simp)).andFrame (State.setChan_frame _ n _)
    (by simp) (by simp) (by simp)).andFrame (State.hand_frame _ _) (by simp) (by simp) (by simp)).andFrame
    (State.raise_frame _ _) (by simp) (by simp) (by simp)

theorem failChan (h : Spares s t) (n : ChanNo) (r : Request) (code : FaultCode) : Spares s (t.failChan n r code) := by
  unfold State.failChan
  split <;> exact h.haltChan _ _ _

theorem placeChan (h : Spares s t) (n : ChanNo) (r : Request) : Spares s (t.placeChan n r) := by
  unfold State.placeChan
  dsimp only
  split
  · exact h.andFrame (State.setArb_frame _ _ _) (by simp) (by simp) (by simp)
  · exact h.failChan _ _ _

theorem consider (h : Spares s t) (n : ChanNo) : Spares s (t.consider n) := by
  unfold State.consider
  dsimp only
  split
  · exact h
  · split
    · split
      · exact h.placeChan n _
      · exact h
    · exact h

theorem failHead (h : Spares s t) (code : FaultCode) : Spares s (t.failHead code) := by
  unfold State.failHead
  split
  · exact h
  · exact (h.andFrame (t.withHost_frame _) (by simp) (by simp) (by simp)).andFrame (State.hand_frame _ _) (by simp) (by simp)
      (by simp)

theorem placeHeads (fuel : Nat) : ∀ {t : State}, Spares s t → Spares s (t.placeHeads fuel) := by
  induction fuel with
  | zero => exact fun h => h
  | succ fuel ih =>
    intro t h
    unfold State.placeHeads
    dsimp only
    split
    · exact h
    · split
      · exact h
      · split
        · exact ih (h.failHead _)
        · split
          · exact h
          · exact h.andFrame (State.setArb_frame _ _ _) (by simp) (by simp) (by simp)

theorem placeHead (h : Spares s t) : Spares s t.placeHead := placeHeads _ h

/-- Soft reset of the fill queue only makes groups DISCARD (R40). -/
theorem resetFill (h : Spares s t) : Spares s t.resetFill := by
  have hd : Spares t t.withdrawFill.discardPending := by
    refine ⟨t.withdrawFill.discardPending_wf, fun _ => rfl, fun c o ho => ⟨o, ho, rfl, rfl⟩, fun hwf g hg => ?_⟩
    have := tableRead_filter (fun e => e.2.state != .fillPending) g hwf.2
    rw [State.group, State.discardPending, State.withdrawFill_groups, this] at hg
    split at hg
    · exact hg
    · simp [blankGroup] at hg
  refine h.trans ?_
  unfold State.resetFill
  dsimp only
  split
  · exact hd.andFrame (State.withFill_frame _ _) (by simp) (by simp) (by simp)
  · rename_i g _ _
    refine Spares.andFrame ?_ (State.withFill_frame _ _) (by simp) (by simp) (by simp)
    refine hd.trans ⟨State.setGroup_wf _ g blankGroup, fun _ => rfl, fun c o ho => ⟨o, ho, rfl, rfl⟩, fun hwf k hk => ?_⟩
    rw [State.setGroup_group _ g k blankGroup hwf] at hk
    split at hk
    · simp [blankGroup] at hk
    · exact hk
  · exact hd.andFrame (State.withFill_frame _ _) (by simp) (by simp) (by simp)

theorem searchScrub (h : Spares s t) : Spares s t.searchScrub := by
  obtain ⟨-, -, hf⟩ := t.searchScrub_rule
  exact h.andFrame hf (by simp [allArbs]) (by simp [allArbs]) (by simp [allArbs])

/-- What a requester does when its grant lapses (R72). -/
theorem lapsed (h : Spares s t) (r : Requester) (q : Request) : Spares s (t.lapsed r q) := by
  cases r with
  | host =>
    simp only [State.lapsed]
    split
    · exact (h.andFrame (t.endCycle_frame _) (by simp) (by simp) (by simp)).placeHead
    · exact (h.failHead _).placeHead
  | ch n => exact h.failChan _ _ _
  | fill =>
    simp only [State.lapsed, State.fillCheckFailed]
    split
    · exact h
    · exact h.resetFill
  | scrub =>
    exact ((h.andFrame t.nextScrubRow_frame (by simp) (by simp) (by simp)).andFrame (State.withScrub_frame _ _) (by simp)
      (by simp) (by simp)).searchScrub
  | refresh => exact h

/-- What a requester does when its operation has begun (R93, R101, R121). -/
theorem granted (h : Spares s t) (r : Requester) (q : Request) : Spares s (t.granted r q) := by
  unfold State.granted
  split
  · split
    · exact h.placeHead
    · exact h
  · split
    · exact (h.andFrame (State.setChan_frame _ _ _) (by simp) (by simp) (by simp)).consider _
    · exact (h.andFrame (State.setChan_frame _ _ _) (by simp) (by simp) (by simp)).consider _
    · exact h.consider _
  · exact h.andFrame (State.withFill_frame _ _) (by simp) (by simp) (by simp)
  · exact h.andFrame (State.withScrub_frame _ _) (by simp) (by simp) (by simp)
  · exact h

/-- A request leaves the arbiter of `b`. -/
theorem taken (h : Spares s t) (b : BankNo) (r : Requester) : Spares s ((t.parted b).takeRequest b r) :=
  h.andFrame (ps := [.arb b, .ties]) ((t.parted_frame b).andThen (State.takeRequest_frame _ b r) (by simp)) (by simp) (by simp)
    (by simp)

end Spares

/-- A granted request begins its own operation, marked residual at most (R71). -/
theorem State.beginGranted_op {s : State} {b : BankNo} {r : Requester} {how : Picked} {q : Request} {o : Op}
    (h : ((s.beginGranted b r how q).bank b).op = some o) : o.kind = q.kind ∧ o.addr = q.addr := by
  obtain ⟨p, hp, hk, ha⟩ := (Spares.refl _).granted r q |>.ops b o h
  rw [State.startColumn, State.setBank_bank, if_pos rfl] at hp
  cases hp
  exact ⟨hk.symm, ha.symm⟩

/-- The operation that the grant decisions at `b` begin there for the host, a channel or the scrubber is in a KEEP group of a READY bank. -/
theorem State.grants_keep (b : BankNo) (fuel : Nat) : ∀ s : State, s.tablesWf → s.BanksOk → (s.bank b).op = none →
    ∀ o, ((s.grants b fuel).bank b).op = some o → o.kind ≠ .refresh → o.kind ≠ .fillSegment →
      (s.group (groupOf o.addr)).state = .keep ∧ s.isReady b = true := by
  induction fuel with
  | zero =>
    intro s _ _ hnone o ho
    exact absurd (hnone.symm.trans ho) (by simp)
  | succ fuel ih =>
    intro s hwf hok hnone o ho href hfill
    have hsame : (s.bank b).op ≠ some o := by simp [hnone]
    unfold State.grants at ho
    split at ho
    · split at ho
      · exact absurd ho hsame
      · rename_i how _
        rw [State.beginRefresh, State.startClosed_bank] at ho
        cases ho
        exact absurd rfl href
      · rename_i r how hr _
        split at ho
        · exact absurd ho hsame
        · rename_i q hq
          split at ho
          · rename_i hcheck
            obtain ⟨hk, ha⟩ := State.beginGranted_op ho
            have hnotfill : r ≠ .fill := by
              rintro rfl
              obtain ⟨_, _, hf, _⟩ := (hok b).kinds
              exact hfill (hk.trans (hf q hq))
            rw [ha]
            cases r with
            | refresh => exact absurd hq (by simp [State.pendingAt])
            | fill => exact absurd rfl hnotfill
            | _ => simpa [State.grantCheck] using hcheck
          · have hsp : Spares s (((s.parted b).takeRequest b r).lapsed r q) := ((Spares.refl s).taken b r).lapsed r q
            have hkeeps : Keeps s (((s.parted b).takeRequest b r).lapsed r q) :=
              (((Keeps.refl s).parted b).takeRequest b r).lapsed r q
            have hnone' : ((((s.parted b).takeRequest b r).lapsed r q).bank b).op = none := by
              cases hop : ((((s.parted b).takeRequest b r).lapsed r q).bank b).op with
              | none => rfl
              | some p =>
                obtain ⟨p', hp', _⟩ := hsp.ops b p hop
                exact absurd (hnone.symm.trans hp') (by simp)
            obtain ⟨hkeep, hready⟩ := ih _ (hkeeps.tables hwf) (fun c => hkeeps.bank c (hok c)) hnone' o ho href hfill
            exact ⟨hsp.keep hwf _ hkeep, (hsp.ready b).symm.trans hready⟩
    · exact absurd ho hsame

/-- Settles O17. -/
theorem grantReadsOnlyKept : Obligations.GrantReadsOnlyKept := by
  intro s t b o hwf hok hexec hnone ho href hfill
  have ht : s.ownIfDue (.bankGrant b) = t := by
    injection hexec
  subst ht
  unfold State.ownIfDue at ho
  split at ho
  · obtain ⟨a, hmeet, -⟩ := State.meet_eq s (s.grants b 16)
    have hop : ((s.grants b 16).bank b).op = some o := by
      rw [← ho]
      show _ = (Bank.op ((s.meet (s.grants b 16)).bank b))
      rw [hmeet]
      rfl
    exact s.grants_keep b 16 hwf hok hnone o hop href hfill
  · exact absurd (hnone.symm.trans ho) (by simp)

end Sys2Proof.Machine
end

section
-- One thread at a time: the stack of each thread counts against the memory limit of the check.
set_option Elab.async false
/-! SUPPORT. Proofs/ChannelGrant.lean: the grant of a channel's request that stands alone at its bank. -/

namespace Sys2Proof.Machine

/-! ### The winner (R66, R67, R68) -/

theorem requesterAt_positionOf_ch (n : ChanNo) : requesterAt (positionOf (.ch n)) = .ch n := by
  revert n
  decide

theorem eq_positionOf_ch {n : ChanNo} {p : Fin 6} (h : requesterAt p = .ch n) : p = positionOf (.ch n) := by
  revert n p
  decide

theorem mem_searchAfter (p x : Fin 6) : x ∈ searchAfter p := by
  revert p x
  decide

/-- A search finds the one position that qualifies, wherever it begins. -/
theorem find?_searchAfter {f : Fin 6 → Bool} {x : Fin 6} (p : Fin 6) (hx : f x = true) (h : ∀ y, f y = true → y = x) :
    (searchAfter p).find? f = some x := by
  obtain ⟨y, hy⟩ := Option.isSome_iff_exists.1 (List.find?_isSome.2 ⟨x, mem_searchAfter p x, hx⟩)
  rw [hy, h y (List.find?_some hy)]

section
variable {s : State} {b : BankNo} {n : ChanNo} {q : Request}

/-- How the request `q` at bank `b` wins where it is the only NORMAL one (R67). -/
def State.pickedFor (s : State) (b : BankNo) (q : Request) : Picked := if s.isHit b q then .byHit else .byRotation

/-- Up to a balance of +4 REFRESH asks at no more than BACKGROUND (R52). -/
theorem State.refreshRequest_low (h : (s.account b).balance ≤ 4) :
    s.refreshRequest b ≠ .urgent ∧ s.refreshRequest b ≠ .normal := by
  have hu : urgencyOf (s.account b).balance ≠ .urgent ∧ urgencyOf (s.account b).balance ≠ .normal := by
    unfold urgencyOf
    split
    · simp
    · split
      · simp
      · simp
  unfold State.refreshRequest State.urgency
  split
  · simp
  · split
    · exact hu
    · simp

/-- The channel's position is the only one pending in the NORMAL class. -/
theorem State.normalPending_lone (h : s.solePending b (.ch n) q) (hlow : (s.account b).balance ≤ 4) (p : Fin 6) :
    s.normalPending b p = true ↔ p = positionOf (.ch n) := by
  constructor
  · intro hp
    by_contra hne
    have hr : requesterAt p ≠ .ch n := fun he => hne (eq_positionOf_ch he)
    unfold State.normalPending at hp
    split at hp
    · exact (State.refreshRequest_low hlow).2 (by simpa using hp)
    · rw [State.solePending_none h hr] at hp
      simp at hp
  · rintro rfl
    have hq : s.pendingAt b (.ch n) = some q := h.1
    simp [State.normalPending, requesterAt_positionOf_ch, hq]

theorem State.normalHit_lone (h : s.solePending b (.ch n) q) (p : Fin 6) :
    s.normalHit b p = true ↔ p = positionOf (.ch n) ∧ s.isHit b q = true := by
  have hq : s.pendingAt b (.ch n) = some q := h.1
  by_cases hp : p = positionOf (.ch n)
  · subst hp
    simp [State.normalHit, requesterAt_positionOf_ch, hq]
  · have hr : requesterAt p ≠ .ch n := fun he => hp (eq_positionOf_ch he)
    simp [State.normalHit, State.solePending_none h hr, hp]

/-- The winner of the NORMAL class, when one request of a channel is all there is (R67). -/
theorem State.normalWinner_lone (h : s.solePending b (.ch n) q) (hlow : (s.account b).balance ≤ 4) :
    s.normalWinner b = some (positionOf (.ch n), s.pickedFor b q) := by
  have hpend := State.normalPending_lone h hlow
  have hhit := State.normalHit_lone h
  have hmem : positionOf (.ch n) ∈ normalPositions := by
    clear h hpend hhit
    revert n
    decide
  unfold State.normalWinner State.pickedFor
  cases hq : s.isHit b q with
  | true =>
    have hyes : s.normalHit b (positionOf (.ch n)) = true := (hhit _).2 ⟨rfl, hq⟩
    have hcap : s.capped b = false := by
      simp only [State.capped, Bool.and_eq_false_imp]
      refine fun _ => List.any_eq_false.2 fun p _ => ?_
      by_cases hp : s.normalPending b p = true
      · simp [(hpend p).1 hp, hyes]
      · simp [hp]
    rw [if_pos ⟨hcap, List.any_eq_true.2 ⟨_, hmem, hyes⟩⟩, find?_searchAfter _ hyes fun y hy => ((hhit y).1 hy).1]
    rfl
  | false =>
    have hno : ∀ p, s.normalHit b p = false := fun p => by
      cases hp : s.normalHit b p with
      | false => rfl
      | true => exact absurd ((hhit p).1 hp).2 (by simp [hq])
    rw [if_neg (by simp [hno]), find?_searchAfter _ ((hpend _).2 rfl) fun y hy => (hpend y).1 hy]
    rfl

theorem State.winner_lone (h : s.solePending b (.ch n) q) (hlow : (s.account b).balance ≤ 4) (hmet : (s.arb b).met = false) :
    s.winner b = some (.ch n, s.pickedFor b q) := by
  have hhost : (s.arb b).host = none := State.solePending_none h (r' := .host) (by simp)
  rw [s.winner_of_not_met b hmet, State.orderWinner, if_neg (State.refreshRequest_low hlow).1, hhost,
    State.normalWinner_lone h hlow]
  simp [requesterAt_positionOf_ch]

/-! ### The operation begins (R71) -/

/-- Bank `b` has begun the operation of the channel's request `q`, the channel not told yet. -/
def State.columnBegun (s : State) (b : BankNo) (n : ChanNo) (q : Request) : State :=
  ((s.takeRequest b (.ch n)).countGrant b (.ch n) (s.pickedFor b q) (s.isHit b q)).startColumn b q.kind q.addr q.words
    (s.grantPayload q)

theorem State.columnBegun_frame : unchangedBut [.bank b, .arb b] s (s.columnBegun b n q) :=
  (((s.takeRequest_frame b (.ch n)).andThen (State.countGrant_frame _ b _ _ _) (by simp)).mono (by simp)).andThen
    (State.setBank_frame _ b _) (by simp)

theorem State.columnBegun_arb : (s.columnBegun b n q).arb b = s.afterNormal b (.ch n) (positionOf (.ch n)) q := by
  have hhit : s.isHit b q = decide ((s.bank b).openRow = some (rowOf q.addr)) := by
    rw [State.isHit, beq_eq_decide]
  by_cases h : (s.bank b).openRow = some (rowOf q.addr) <;>
    simp [State.columnBegun, State.startColumn, State.countGrant, State.takeRequest, State.pickedFor, hhit, h, State.setArb_arb,
      State.afterNormal, withoutRequest, State.streakAfter, Config.streakCap]

/-- What begins at the bank is the operation of the request, with the words it stores. -/
theorem State.columnBegun_bank : (s.columnBegun b n q).bank b = { s.bank b with
    op := some ((s.takeRequest b (.ch n)).countGrant b (.ch n) (s.pickedFor b q) (s.isHit b q) |>.newOp b q.kind q.addr q.words
      (s.grantPayload q))
    openRow := some (rowOf q.addr), holdTimer := none } := by
  have hbank : ((s.takeRequest b (.ch n)).countGrant b (.ch n) (s.pickedFor b q) (s.isHit b q)).bank b = s.bank b :=
    ((s.takeRequest_frame b (.ch n)).andThen (State.countGrant_frame _ b _ _ _) (by simp)) (.bank b) (by simp)
  rw [State.columnBegun, State.startColumn, State.setBank_bank, if_pos rfl, hbank]

/-- A state with the bank and the parts that the operation's record is taken from as they begin shows the operation begun. -/
theorem begun_of_columnBegun {t : State} (ht : t.bank b = (s.columnBegun b n q).bank b) :
    begun s t b q (s.grantPayload q) := by
  have hu := (s.takeRequest_frame b (.ch n)).andThen
    (State.countGrant_frame _ b (.ch n) (s.pickedFor b q) (s.isHit b q)) (by simp)
  have hconfig := hu .config (by simp)
  have htiming := hu .timing (by simp)
  exact ⟨_, ht.trans State.columnBegun_bank, rfl, rfl, rfl, rfl, congrArg ConfigReg.cwb hconfig, htiming, rfl, rfl⟩

/-- The lone request of a channel to a KEEP group is granted at once, and nothing else is decided (R64, R71). -/
theorem State.grants_lone (hd : s.decides b) (hlow : (s.account b).balance ≤ 4) (h : s.solePending b (.ch n) q)
    (hkeep : (s.group (groupOf q.addr)).state = .keep) :
    s.ownDue (.bankGrant b) = true ∧ s.grants b 16 = (s.columnBegun b n q).granted (.ch n) q := by
  obtain ⟨hreset, hfree, hoff, horder, hread, hmet⟩ := hd
  have hwin := State.winner_lone h hlow hmet
  have hdue : s.grantDue b = true := by simp [State.grantDue, hfree, hoff, horder, hread, hwin]
  have hready : s.isReady b = true := State.ready_of_grantDue hdue
  have hq : s.pendingAt b (.ch n) = some q := h.1
  have hcheck : s.grantCheck b (.ch n) q = true := by simp [State.grantCheck, hkeep, hready]
  refine ⟨by simp [State.ownDue, hreset, hdue], ?_⟩
  rw [State.grants, if_pos hdue, hwin]
  simp only [hq, hcheck, if_true, s.parted_of_not_met b hmet]
  rfl

end

/-! ### Nothing meets (R65) -/

/-- A request that comes to a bank with nothing to grant is alone there. -/
theorem State.meetsAt_withRequest {s t : State} {c : BankNo} {n : ChanNo} {r : Request}
    (ha : t.arb c = withRequest n r c (s.arb c)) (hb : t.bank c = s.bank c) (hc : t.account c = s.account c) :
    s.meetsAt t c = false := by
  by_cases hr : c = bankOf r.addr
  · cases hcand : s.candidates c with
    | cons x l => simp [State.meetsAt, hcand]
    | nil =>
      obtain ⟨hpend, hrefresh⟩ := List.append_eq_nil_iff.1 hcand
      have halone : t.refreshAlone c = false := by
        have hs : s.refreshAlone c = false := by simpa using hrefresh
        rw [← hs]
        simp [State.refreshAlone, State.refreshRequest, State.refreshing, State.urgency, State.isReady, hb, hc]
      have hwho : ∀ x ∈ otherRequesters, (t.pendingAt c x).isSome = true → x = .ch n := fun x hx hsome => by
        have hnone : (s.pendingAt c x).isSome = false := by simpa using List.filter_eq_nil_iff.1 hpend x hx
        by_contra hne
        rw [withRequest, if_pos hr] at ha
        cases x with
        | ch m =>
          have hm : m ≠ n := fun h => hne (by rw [h])
          simp only [State.pendingAt, ha, Four.get_set_ne _ _ hm] at hsome hnone
          exact absurd (hsome.symm.trans hnone) (by simp)
        | _ =>
          simp only [State.pendingAt, ha] at hsome hnone
          exact absurd (hsome.symm.trans hnone) (by simp)
      have hlen : (otherRequesters.filter fun x => (t.pendingAt c x).isSome).length ≤ 1 := by
        have hnd : (otherRequesters.filter fun x => (t.pendingAt c x).isSome).Nodup := List.Nodup.filter _ (by decide)
        refine (List.Nodup.subperm (l₂ := [.ch n]) hnd fun x hx => ?_).length_le
        obtain ⟨hin, hsome⟩ := List.mem_filter.1 hx
        exact List.mem_singleton.2 (hwho x hin hsome)
      have hfew : ¬ 2 ≤ (t.candidates c).length := by
        rw [State.candidates, halone]
        simp only [Bool.false_eq_true, if_false, List.append_nil]
        omega
      simp [State.meetsAt, hfew]
  · exact State.meetsAt_congr (by rw [ha, withRequest, if_neg hr]) hb hc

/-- Beside an operation that has begun, one request at most has come to another bank: nothing has met. -/
theorem State.meet_of_begun {s t : State} {b : BankNo} {n : ChanNo} (hb : (t.bank b).op.isSome = true)
    (hbank : ∀ c, c ≠ b → t.bank c = s.bank c) (hacc : ∀ c, t.account c = s.account c)
    (harb : ∀ c, c ≠ b → ∃ r, t.arb c = withRequest n r c (s.arb c) ∨ t.arb c = s.arb c) : s.meet t = t := by
  refine s.meet_of_none t fun c => ?_
  by_cases hc : c = b
  · subst hc
    simp [State.meetsAt, State.isFree, Option.isNone_eq_false_iff.2 hb]
  · obtain ⟨r, hr | hr⟩ := harb c hc
    · exact State.meetsAt_withRequest hr (hbank c hc) (hacc c)
    · exact State.meetsAt_congr hr (hbank c hc) (hacc c)

/-! ### What the channel does then (R121) -/

/-- A channel whose descriptor has ended asks for no more data. -/
theorem State.consider_of_not_runs (s : State) (n : ChanNo) (h : runs (s.chan n) = false) : s.consider n = s := by
  unfold State.consider
  dsimp only
  split
  · rfl
  · simp [h]

theorem State.consider_of_no_request (s : State) (n : ChanNo) (w : Work) (hw : (s.chan n).work = some w)
    (h : s.nextRequest n w = none) : s.consider n = s := by
  simp only [State.consider, hw, h]
  split <;> rfl

/-- A channel that runs with no request pending places the one it asks for next, at a READY bank. -/
theorem State.consider_places (s : State) (n : ChanNo) (w : Work) (r : Request) (hw : (s.chan n).work = some w)
    (hruns : runs (s.chan n) = true) (hnone : ∀ c, (s.arb c).ch.get n = none) (h : s.nextRequest n w = some r)
    (hready : s.isReady (bankOf r.addr) = true) :
    unchangedBut allArbs s (s.consider n) ∧ ∀ c, (s.consider n).arb c = withRequest n r c (s.arb c) := by
  have hreq : s.chanRequest n = none := by simp [State.chanRequest, Four.indices, hnone]
  have he : s.consider n = s.placeChan n r := by simp only [State.consider, hw, hruns, hreq, h]; rfl
  rw [he]
  refine ⟨?_, s.placeChan_ready_arb n r hready⟩
  rw [s.placeChan_ready n r hready]
  exact (s.setArb_frame _ _).mono (by simp)

/-- While a data write of the channel is in flight, it asks for no other write (R121). -/
theorem State.nextRequest_writing {s : State} {n : ChanNo} (w : Work) (hwr : s.chanWriting n = true)
    (h : w.op = .pattern ∨ w.op = .streamIn ∨ w.op = .copy ∧ w.unread = 0) : s.nextRequest n w = none := by
  unfold State.nextRequest
  rcases h with h | h | ⟨h, hu⟩ <;> simp [h, hwr]
  omega

/-- The read that a COPY asks for when it may (R121, R123). -/
def copyRead (n : ChanNo) (c : Channel) (w : Work) : Request :=
  { kind := .dataRead n, addr := w.src, words := min 8 (min (min w.unread (16 - c.fifo.length)) (wordsLeftInRow w.src)) }

/-- A COPY with words to read, a free slot and no read outstanding asks for a read beside its write (R121, R123). -/
theorem State.nextRequest_copy {s : State} {n : ChanNo} (w : Work) (hwr : s.chanWriting n = true)
    (hre : s.chanReading n = false) (hop : w.op = .copy) (hu : 1 ≤ w.unread) (hslot : (s.chan n).fifo.length < 16) :
    s.nextRequest n w = some (copyRead n (s.chan n) w) := by
  have hfree : 1 ≤ min w.unread (freeSlots (s.chan n)) := by
    simp only [freeSlots, Config.fifoDepth]
    omega
  simp only [State.nextRequest, hop, hwr, hre, hfree]
  simp [copyRead, readBurst, freeSlots, Config.fifoDepth, Config.burstMax]

end Sys2Proof.Machine
end

section
-- One thread at a time: the stack of each thread counts against the memory limit of the check.
set_option Elab.async false
/-! SUPPORT. Proofs/ChannelWrites.lean: a channel's data writes and write-backs, from the grant to the end of the descriptor. -/

namespace Sys2Proof.Machine

/-! ### The grant of a data write (R121, R122, R124) -/

section
variable {s : State} {b : BankNo} {n : ChanNo} {q : Request} {w : Work}

/-- The destination cursor after the burst of `q`. -/
def advancedChan (c : Channel) (w : Work) (q : Request) : Channel :=
  { c with work := some { w with dst := w.dst + BitVec.ofNat 22 q.words } }

/-- A data write has begun at bank `b`, and the channel has moved its cursor on. -/
def State.writeBegun (s : State) (b : BankNo) (n : ChanNo) (q : Request) (w : Work) : State :=
  (s.columnBegun b n q).setChan n (advancedChan (s.chan n) w q)

theorem State.granted_write (hk : q.kind = .dataWrite n) (hw : (s.chan n).work = some w) :
    (s.columnBegun b n q).granted (.ch n) q = (s.writeBegun b n q w).consider n := by
  have hc : (s.columnBegun b n q).chan n = s.chan n := State.columnBegun_frame (.chan n) (by simp)
  simp only [State.granted, hk, hc, hw]
  rfl

theorem State.writeBegun_frame : unchangedBut [.bank b, .arb b, .chan n] s (s.writeBegun b n q w) :=
  (State.columnBegun_frame.mono (by simp)).andThen (State.setChan_frame _ n _) (by simp)

theorem State.writeBegun_chan : (s.writeBegun b n q w).chan n = advancedChan (s.chan n) w q := by
  rw [State.writeBegun, State.setChan_chan, if_pos rfl]

theorem State.grantPayload_write (hk : q.kind = .dataWrite n) (hw : (s.chan n).work = some w) :
    s.grantPayload q = if w.op = .pattern then List.replicate q.words (encodeWord w.word1)
      else ((s.chan n).fifo.take q.words).map fun x => encodeWord x.data := by
  simp only [State.grantPayload, hk, hw]

/-- The write is in flight. -/
theorem State.writeBegun_writing (hk : q.kind = .dataWrite n) : (s.writeBegun b n q w).chanWriting n = true := by
  refine List.any_eq_true.2 ⟨b, Four.mem_indices b, ?_⟩
  show ((s.columnBegun b n q).bank b).op.any _ = true
  rw [State.columnBegun_bank]
  simp [State.newOp, hk, OpKind.channel]

/-- The write is no read. -/
theorem State.writeBegun_reading (hk : q.kind = .dataWrite n) (h : s.chanReading n = false) :
    (s.writeBegun b n q w).chanReading n = false := by
  refine List.any_eq_false.2 fun c hc => ?_
  by_cases hb : c = b
  · subst hb
    show ¬ (((s.columnBegun c n q).bank c).op.any _ = true)
    rw [State.columnBegun_bank]
    simp [State.newOp, hk]
  · rw [State.writeBegun_frame (.bank c) (by simp [hb])]
    exact List.any_eq_false.1 h c hc

theorem State.writeBegun_arb (c : BankNo) : (s.writeBegun b n q w).arb c =
    if c = b then s.afterNormal b (.ch n) (positionOf (.ch n)) q else s.arb c := by
  split
  · rename_i hc
    subst hc
    exact State.columnBegun_arb
  · rename_i hc
    exact State.writeBegun_frame (.arb c) (by simp [hc])

/-- The channel's request has gone from its arbiter. -/
theorem State.writeBegun_none (h : ∀ c, c ≠ b → (s.arb c).ch.get n = none) (c : BankNo) :
    ((s.writeBegun b n q w).arb c).ch.get n = none := by
  rw [State.writeBegun_arb]
  split
  · simp [State.afterNormal, withoutRequest]
  · rename_i hc
    exact h c hc

/-- BANK_GRANT of a lone data write that leaves the channel nothing more to ask for. -/
theorem grant_write_alone (hd : s.decides b) (hlow : (s.account b).balance ≤ 4) (h : s.solePending b (.ch n) q)
    (hk : q.kind = .dataWrite n) (hkeep : (s.group (groupOf q.addr)).state = .keep) (hw : (s.chan n).work = some w)
    (hop : w.op = .pattern ∨ w.op = .streamIn ∨ w.op = .copy ∧ w.unread = 0) :
    ∃ t, exec (.bankGrant b) s = .next t ∧ begun s t b q (s.grantPayload q) ∧ t.chan n = advancedChan (s.chan n) w q ∧
      t.arb b = s.afterNormal b (.ch n) (positionOf (.ch n)) q ∧ unchangedBut [.bank b, .arb b, .chan n] s t := by
  obtain ⟨hdue, hgrants⟩ := State.grants_lone hd hlow h hkeep
  have hbegun : s.grants b 16 = s.writeBegun b n q w := by
    rw [hgrants, State.granted_write hk hw]
    exact State.consider_of_no_request _ n { w with dst := w.dst + BitVec.ofNat 22 q.words }
      (congrArg Channel.work State.writeBegun_chan) (State.nextRequest_writing _ (State.writeBegun_writing hk) hop)
  have hframe : unchangedBut [.bank b, .arb b, .chan n] s (s.writeBegun b n q w) := State.writeBegun_frame
  have hbank : (s.writeBegun b n q w).bank b = (s.columnBegun b n q).bank b := rfl
  have hmeet : s.meet (s.writeBegun b n q w) = s.writeBegun b n q w :=
    State.meet_of_begun (n := n) (by rw [hbank, State.columnBegun_bank]; rfl) (fun c hc => hframe (.bank c) (by simp [hc]))
      (fun c => hframe (.account c) (by simp)) fun c hc => ⟨q, .inr (hframe (.arb c) (by simp [hc]))⟩
  refine ⟨_, next_ownIfDue hdue, ?_⟩
  rw [show s.ownStep (.bankGrant b) = s.meet (s.grants b 16) from rfl, hbegun, hmeet]
  exact ⟨begun_of_columnBegun hbank, State.writeBegun_chan, State.columnBegun_arb, hframe⟩

/-- BANK_GRANT of a lone data write of a COPY that asks for its next read. -/
theorem grant_write_copies (hd : s.decides b) (hlow : (s.account b).balance ≤ 4) (h : s.solePending b (.ch n) q)
    (hother : ∀ c, c ≠ b → (s.arb c).ch.get n = none) (hk : q.kind = .dataWrite n)
    (hkeep : (s.group (groupOf q.addr)).state = .keep) (hw : (s.chan n).work = some w) (hop : w.op = .copy) (hu : 1 ≤ w.unread)
    (hslot : (s.chan n).fifo.length < 16) (hruns : runs (s.chan n) = true) (hread : s.chanReading n = false)
    (hready : s.isReady (bankOf w.src) = true) :
    ∃ t, exec (.bankGrant b) s = .next t ∧ begun s t b q (s.grantPayload q) ∧ t.chan n = advancedChan (s.chan n) w q ∧
      (∀ c, t.arb c = withRequest n (copyRead n (s.chan n) w) c
        (if c = b then s.afterNormal b (.ch n) (positionOf (.ch n)) q else s.arb c)) ∧
      unchangedBut ([.bank b, .chan n] ++ allArbs) s t := by
  obtain ⟨hdue, hgrants⟩ := State.grants_lone hd hlow h hkeep
  rw [State.granted_write hk hw] at hgrants
  have hframe : unchangedBut [.bank b, .arb b, .chan n] s (s.writeBegun b n q w) := State.writeBegun_frame
  have hchan : (s.writeBegun b n q w).chan n = advancedChan (s.chan n) w q := State.writeBegun_chan
  have hnext := State.nextRequest_copy (s := s.writeBegun b n q w) { w with dst := w.dst + BitVec.ofNat 22 q.words }
    (State.writeBegun_writing hk) (State.writeBegun_reading hk hread) hop hu (by rw [hchan]; exact hslot)
  have hruns' : runs ((s.writeBegun b n q w).chan n) = true := by
    rw [hchan]
    simpa [runs, advancedChan, hw] using hruns
  have hbank : (s.writeBegun b n q w).bank b = (s.columnBegun b n q).bank b := rfl
  have hready' : (s.writeBegun b n q w).isReady (bankOf w.src) = true := by
    by_cases hb : bankOf w.src = b
    · rw [hb] at hready ⊢
      rw [State.isReady, hbank, State.columnBegun_bank]
      exact hready
    · rw [State.isReady, hframe (.bank _) (by simp [hb])]
      exact hready
  obtain ⟨hplace, harb⟩ := State.consider_places (s.writeBegun b n q w) n _ _ (congrArg Channel.work hchan) hruns'
    (State.writeBegun_none hother) hnext hready'
  rw [← hgrants] at hplace harb
  have hbank' : (s.grants b 16).bank b = (s.columnBegun b n q).bank b := hplace (.bank b) (by simp [allArbs])
  have hall : unchangedBut ([.bank b, .chan n] ++ allArbs) s (s.grants b 16) := (hframe.mono (by simp)).andThen hplace (by simp)
  have harb' : ∀ c, (s.grants b 16).arb c = withRequest n (copyRead n (s.chan n) w) c
      (if c = b then s.afterNormal b (.ch n) (positionOf (.ch n)) q else s.arb c) := fun c => by
    rw [harb c, State.writeBegun_arb, hchan]
    rfl
  have hmeet : s.meet (s.grants b 16) = s.grants b 16 :=
    State.meet_of_begun (n := n) (by rw [hbank', State.columnBegun_bank]; rfl)
      (fun c hc => hall (.bank c) (by simp [hc, allArbs])) (fun c => hall (.account c) (by simp [allArbs])) fun c hc =>
        ⟨_, .inl (by rw [harb' c, if_neg hc])⟩
  refine ⟨_, next_ownIfDue hdue, ?_⟩
  rw [show s.ownStep (.bankGrant b) = s.meet (s.grants b 16) from rfl, hmeet]
  refine ⟨begun_of_columnBegun hbank', (hplace (.chan n) (by simp [allArbs])).trans hchan, harb', hall⟩

end

/-! ### The words stored (R16) -/

/-- The words of the operation `o` are stored and the bank has finished its column operation. -/
def State.wordsStored (s : State) (b : BankNo) (o : Op) : State := (s.setWords o.addr o.payload).finishColumn b

section
variable (s : State) (b : BankNo) (o : Op)

theorem State.wordsStored_frame : unchangedBut [.array, .bank b, .arb b] s (s.wordsStored b o) :=
  ((s.setWords_frame _ _).mono (by simp)).andThen (State.finishColumn_frame _ b) (by simp)

theorem State.wordsStored_bank : (s.wordsStored b o).bank b = afterColumn s.config.hold (s.bank b) := by
  have hconfig : (s.setWords o.addr o.payload).config = s.config := s.setWords_frame _ _ .config (by simp)
  have hbank : (s.setWords o.addr o.payload).bank b = s.bank b := s.setWords_frame _ _ (.bank b) (by simp)
  rw [State.wordsStored, State.finishColumn_bank, if_pos rfl, hconfig, hbank]

theorem State.wordsStored_arb (c : BankNo) : (s.wordsStored b o).arb c = s.columnDone b c := by
  have hconfig : (s.setWords o.addr o.payload).config = s.config := s.setWords_frame _ _ .config (by simp)
  have hbank : (s.setWords o.addr o.payload).bank b = s.bank b := s.setWords_frame _ _ (.bank b) (by simp)
  have harb : ∀ c, (s.setWords o.addr o.payload).arb c = s.arb c := fun c => s.setWords_frame _ _ (.arb c) (by simp)
  rw [State.wordsStored, State.finishColumn_arb, State.columnDone, State.columnDone, hconfig, hbank, harb, harb]

theorem State.wordsStored_isReady (c : BankNo) : (s.wordsStored b o).isReady c = s.isReady c := by
  have hbank : (s.setWords o.addr o.payload).bank c = s.bank c := s.setWords_frame _ _ (.bank c) (by simp)
  rw [State.wordsStored, State.finishColumn_isReady, State.isReady, hbank, State.isReady]

theorem State.wordsStored_array : (s.wordsStored b o).array = (s.setWords o.addr o.payload).array :=
  State.finishColumn_frame _ b .array (by simp)

/-- Each word of the operation reads as stored. -/
theorem State.wordsStored_word (hwf : s.tablesWf) (hl : o.payload.length ≤ 8) {t : State} (ht : t.array = (s.wordsStored b o).array)
    (i : Nat) (hi : i < o.payload.length) : t.word (o.addr + BitVec.ofNat 22 i) = o.payload[i] := by
  rw [State.word, ht, s.wordsStored_array b o]
  exact s.setWords_word o.addr o.payload i hwf hi (by omega)

/-- Every word outside the burst reads as before. -/
theorem State.wordsStored_other (hwf : s.tablesWf) {t : State} (ht : t.array = (s.wordsStored b o).array) (v : WordAddr)
    (hv : v ∉ burstAddrs o.addr o.payload.length) : t.word v = s.word v := by
  rw [State.word, ht, s.wordsStored_array b o]
  exact s.setWords_word_of_not_mem o.addr v o.payload hwf hv

end

/-! ### The end of a descriptor (R127 to R129) -/

section
variable (s : State) (n : ChanNo) (w : Work)

/-- The flags after the report on a descriptor, NOTE acted on (R129). -/
def notedEvents (u : EventUnit) (n : ChanNo) (w : Work) : EventUnit := if w.note then withEvent u (.attn n) else u

/-- The channel with its descriptor counted (R129). -/
def countedChan (c : Channel) : Channel := { c with done := c.done + 1#16 }

/-- The descriptor is counted and NOTE acted on, the channel not moved on yet. -/
def State.reported (s : State) (n : ChanNo) (w : Work) : State :=
  let t := s.setChan n (countedChan (s.chan n))
  if w.note then t.raise (.attn n) else t

theorem State.reported_chan : (s.reported n w).chan n = countedChan (s.chan n) := by
  unfold State.reported
  dsimp only
  split <;> simp [State.setChan_chan]

theorem State.reported_events : (s.reported n w).events = notedEvents s.events n w := by
  unfold State.reported notedEvents
  dsimp only
  split <;> simp

theorem State.reported_frame : unchangedBut [.chan n, .events] s (s.reported n w) := by
  have h : unchangedBut [.chan n, .events] s (s.setChan n (countedChan (s.chan n))) := (s.setChan_frame n _).mono (by simp)
  unfold State.reported
  dsimp only
  split
  · exact h.andThen (State.raise_frame _ _) (by simp)
  · exact h

theorem State.stopChan_chan (why : StopReason) : (s.stopChan n why).chan n = stoppedChan (s.chan n) why := by
  simp [State.stopChan, State.setChan_chan, stoppedChan]

theorem State.stopChan_events (why : StopReason) : (s.stopChan n why).events = withEvent s.events (.stop n) := rfl

theorem State.stopChan_frame (why : StopReason) : unchangedBut [.chan n, .events] s (s.stopChan n why) :=
  ((s.setChan_frame n _).mono (by simp)).andThen (State.raise_frame _ _) (by simp)

/-- The channel with no descriptor installed and CH_DESC at `d`, to be fetched. -/
def State.pointed (s : State) (n : ChanNo) (d : DescAddr) : State :=
  s.setChan n { s.chan n with work := none, remaining := 0, ended := none, fifo := [], desc := d }

theorem State.finishDescriptor_eq : s.finishDescriptor n w =
    if (s.chan n).aborting then (s.reported n w).stopChan n .aborted
    else if w.last then (s.reported n w).stopChan n .ended
    else ((s.reported n w).pointed n (w.word3.extractLsb' 4 20)).enterLoading n := rfl

/-- With ABORTING set the report ends in a stop as ABORTED, else with LAST 1 in a stop as END (R129, R141). -/
theorem State.finishDescriptor_stops {why : StopReason}
    (h : ((s.chan n).aborting = true ∧ why = .aborted) ∨ ((s.chan n).aborting = false ∧ w.last = true ∧ why = .ended)) :
    s.finishDescriptor n w = (s.reported n w).stopChan n why := by
  rcases h with ⟨ha, rfl⟩ | ⟨ha, hl, rfl⟩ <;> rw [s.finishDescriptor_eq, ha]
  · rfl
  · rw [hl]
    rfl

/-- A request placed at a READY bank changes arbiters alone (R62). -/
theorem State.placeChan_frame (r : Request) (h : s.isReady (bankOf r.addr) = true) :
    unchangedBut allArbs s (s.placeChan n r) := by
  rw [s.placeChan_ready n r h]
  exact (s.setArb_frame _ _).mono (by simp)

/-- A channel enters LOADING and places its fetch at a READY bank (R117). -/
theorem State.enterLoading_ready (hr : (s.chan n).residual = false) (hready : s.isReady (bankOf (descWord (s.chan n).desc)) = true) :
    (s.enterLoading n).chan n = { s.chan n with state := .loading } ∧
      (∀ c, (s.enterLoading n).arb c = withRequest n (fetchRequest n (s.chan n).desc) c (s.arb c)) ∧
      unchangedBut (.chan n :: allArbs) s (s.enterLoading n) := by
  have he : s.enterLoading n = (s.setChan n { s.chan n with state := .loading }).placeChan n (fetchRequest n (s.chan n).desc) := by
    simp only [State.enterLoading, hr, Bool.false_eq_true, if_false]
  have hplace := State.placeChan_frame (s.setChan n { s.chan n with state := .loading }) n (fetchRequest n (s.chan n).desc) hready
  rw [he]
  refine ⟨?_, fun c => ?_, ((s.setChan_frame n _).mono (by simp)).andThen hplace (by simp)⟩
  · rw [hplace (.chan n) (by simp [allArbs]), State.setChan_chan, if_pos rfl]
  · exact State.placeChan_ready_arb (s.setChan n { s.chan n with state := .loading }) n (fetchRequest n (s.chan n).desc) hready c

/-- The channel that goes on to the descriptor at NEXT (R129). -/
def nextChan (c : Channel) (w : Work) : Channel :=
  { countedChan c with
    state := .loading, desc := w.word3.extractLsb' 4 20, work := none, remaining := 0, ended := none, fifo := [] }

/-- With LAST 0 the descriptor at NEXT is fetched, at a READY bank (R117, R129). -/
theorem State.finishDescriptor_follows {d : DescAddr} (hd : w.word3.extractLsb' 4 20 = d) (ha : (s.chan n).aborting = false)
    (hl : w.last = false) (hr : (s.chan n).residual = false) (hready : s.isReady (bankOf (descWord d)) = true) :
    (s.finishDescriptor n w).chan n = nextChan (s.chan n) w ∧
      (∀ c, (s.finishDescriptor n w).arb c = withRequest n (fetchRequest n d) c (s.arb c)) ∧
      (s.finishDescriptor n w).events = notedEvents s.events n w ∧
      unchangedBut ([.chan n, .events] ++ allArbs) s (s.finishDescriptor n w) := by
  rw [s.finishDescriptor_eq, ha, hl, hd]
  simp only [Bool.false_eq_true, if_false]
  have hu : unchangedBut [.chan n, .events] s ((s.reported n w).pointed n d) :=
    (s.reported_frame n w).andThen (State.setChan_frame _ n _) (by simp)
  have hchan : ((s.reported n w).pointed n d).chan n =
      { countedChan (s.chan n) with work := none, remaining := 0, ended := none, fifo := [], desc := d } := by
    rw [State.pointed, State.setChan_chan, if_pos rfl, s.reported_chan n w]
  have hevents : ((s.reported n w).pointed n d).events = notedEvents s.events n w := s.reported_events n w
  generalize (s.reported n w).pointed n d = u at hu hchan hevents
  obtain ⟨hchan', harb, hload⟩ := u.enterLoading_ready n (by rw [hchan]; exact hr) (by
    rw [hchan, State.isReady, hu (.bank (bankOf (descWord d))) (by simp)]
    exact hready)
  refine ⟨?_, fun c => ?_, (hload .events (by simp [allArbs])).trans hevents, (hu.mono (by simp)).andThen hload (by simp)⟩
  · rw [hchan', hchan, nextChan, hd]
  · rw [harb, hchan, hu (.arb c) (by simp)]

end

end Sys2Proof.Machine
end

section
-- One thread at a time: the stack of each thread counts against the memory limit of the check.
set_option Elab.async false
/-! SUPPORT. Proofs/ChannelEnds.lean: the completions of a channel's data write and of its write-back. -/

namespace Sys2Proof.Machine

/-! ### The end of a descriptor, and the stream port -/

/-- With WB 1 the write-back is requested at a READY bank (R128). -/
theorem State.endDescriptor_reports (s : State) (n : ChanNo) (w : Work) (outcome : DescOutcome) (hwb : w.wb = true)
    (hready : s.isReady (bankOf (descWord (s.chan n).desc)) = true) :
    (s.endDescriptor n w outcome).chan n = { s.chan n with ended := some outcome } ∧
      (∀ c, (s.endDescriptor n w outcome).arb c = withRequest n (writebackRequest n (s.chan n).desc) c (s.arb c)) ∧
      unchangedBut (.chan n :: allArbs) s (s.endDescriptor n w outcome) := by
  let u := s.setChan n { s.chan n with ended := some outcome }
  have he : s.endDescriptor n w outcome = u.placeChan n (writebackRequest n (s.chan n).desc) := by
    simp only [State.endDescriptor, hwb, if_true]
    rfl
  have hplace := u.placeChan_frame n (writebackRequest n (s.chan n).desc) hready
  rw [he]
  refine ⟨?_, u.placeChan_ready_arb n (writebackRequest n (s.chan n).desc) hready,
    ((s.setChan_frame n _).mono (by simp)).andThen hplace (by simp)⟩
  rw [hplace (.chan n) (by simp [allArbs]), State.setChan_chan, if_pos rfl]

/-- With WB 0 the report is over at once (R129). -/
theorem State.endDescriptor_ends (s : State) (n : ChanNo) (w : Work) (outcome : DescOutcome) (hwb : w.wb = false) :
    s.endDescriptor n w outcome = (s.setChan n { s.chan n with ended := some outcome }).finishDescriptor n w := by
  simp only [State.endDescriptor, hwb, Bool.false_eq_true, if_false]

/-- Only a channel that runs is eligible (R155). -/
theorem State.eligible_of_not_runs (s : State) (n : ChanNo) (h : runs (s.chan n) = false) : s.eligible n = false := by
  simp [State.eligible, h]

/-- Only a stream descriptor makes its channel eligible (R155). -/
theorem State.eligible_of_no_stream (s : State) (n : ChanNo) (w : Work) (hw : (s.chan n).work = some w)
    (h : w.op = .copy ∨ w.op = .pattern) : s.eligible n = false := by
  rcases h with h | h <;> simp [State.eligible, hw, h]

/-- Work on one channel, not eligible after it, leaves a quiet stream port quiet (R156). -/
theorem portQuiet_of_frame {s t : State} {n : ChanNo} {ps : List Part} (h : s.portQuiet) (hf : unchangedBut (.chan n :: ps) s t)
    (hs : .stream ∉ ps) (hc : ∀ m, .chan m ∉ ps) (hn : t.eligible n = false) : t.portQuiet := by
  have hstream : t.stream = s.stream := hf .stream (by simp [hs])
  refine h.imp (fun hb => by rwa [hstream]) fun he m => ?_
  by_cases hm : m = n
  · rw [hm, hn]
  · rw [State.eligible_congr (hf (.chan m) (by simp [hm, hc])) hstream, he m]

/-! ### CHANNEL_WRITE_COMPLETE (R123, R127) -/

/-- The channel from which a data write of `k` words has been counted down (R123, R124). -/
def drainedChan (c : Channel) (w : Work) (k : Nat) : Channel :=
  { c with remaining := c.remaining - k, fifo := if w.op = .pattern then c.fifo else c.fifo.drop k }

/-- A data write of `k` words has carried the last mark (R125). -/
def carriesLast (c : Channel) (w : Work) (k : Nat) : Bool := w.op != .pattern && (c.fifo.take k).any fun x => x.last

section
variable {s : State} {b : BankNo} {n : ChanNo} {o : Op} {w : Work}

/-- The data write `o` has stored its words and been counted down. -/
def State.writeDrained (s : State) (b : BankNo) (n : ChanNo) (o : Op) (w : Work) : State :=
  (s.wordsStored b o).setChan n (drainedChan (s.chan n) w o.words)

theorem State.writeDrained_frame : unchangedBut [.array, .bank b, .arb b, .chan n] s (s.writeDrained b n o w) :=
  ((s.wordsStored_frame b o).mono (by simp)).andThen (State.setChan_frame _ n _) (by simp)

theorem State.writeDrained_chan : (s.writeDrained b n o w).chan n = drainedChan (s.chan n) w o.words := by
  rw [State.writeDrained, State.setChan_chan, if_pos rfl]

/-- What follows a data write: the end of the descriptor when no words remain or the last mark was carried, else the next request (R121,
R127). -/
theorem State.completeWrite_eq (hres : o.residual = false) (hw : (s.chan n).work = some w) (hab : (s.chan n).aborting = false) :
    s.completeWrite b n o =
      if (s.chan n).remaining - o.words = 0 ∨ carriesLast (s.chan n) w o.words = true then
        (s.writeDrained b n o w).endDescriptor n w (endOutcome (drainedChan (s.chan n) w o.words))
      else (s.writeDrained b n o w).consider n := by
  have hchan : ((s.setWords o.addr o.payload).finishColumn b).chan n = s.chan n := s.wordsStored_frame b o (.chan n) (by simp)
  have hfifo : ∀ l : List FifoWord, l.drop (if w.op = .pattern then [] else l.take o.words).length =
      if w.op = .pattern then l else l.drop o.words := fun l => by
    split
    · rfl
    · rw [List.length_take]
      rcases Nat.le_total o.words l.length with h | h
      · rw [Nat.min_eq_left h]
      · rw [Nat.min_eq_right h, List.drop_length, List.drop_eq_nil_of_le h]
  have hany : ∀ l : List FifoWord, (if w.op = .pattern then [] else l.take o.words).any (fun x => x.last) =
      (w.op != .pattern && (l.take o.words).any fun x => x.last) := fun l => by
    by_cases h : w.op = .pattern <;> simp [h]
  unfold State.completeWrite
  rw [if_neg (by simp [hres])]
  dsimp only
  rw [hchan]
  split
  · rename_i hnone
    exact absurd (hw.symm.trans hnone) (by simp)
  · rename_i w' hw'
    obtain rfl : w = w' := Option.some.inj (hw.symm.trans hw')
    rw [if_neg (by simp [hab])]
    simp only [hfifo, hany]
    rfl

/-- The words of `o`, and no other, are stored, and bank `b` has finished its column operation (R12, R16). -/
def storedBy (s t : State) (b : BankNo) (o : Op) : Prop :=
  (∀ i, (h : i < o.payload.length) → t.word (o.addr + BitVec.ofNat 22 i) = o.payload[i]) ∧
    (∀ x, x ∉ burstAddrs o.addr o.words → t.word x = s.word x) ∧ t.bank b = afterColumn s.config.hold (s.bank b)

theorem storedBy_of_frame {t : State} {ps : List Part} (hf : unchangedBut ps (s.wordsStored b o) t) (ha : .array ∉ ps)
    (hb : .bank b ∉ ps) (hwf : s.tablesWf) (hlen : o.payload.length = o.words) (h8 : o.words ≤ 8) : storedBy s t b o := by
  have harray : t.array = (s.wordsStored b o).array := hf .array ha
  refine ⟨s.wordsStored_word b o hwf (by omega) harray, fun x hx => ?_, (hf (.bank b) hb).trans (s.wordsStored_bank b o)⟩
  exact s.wordsStored_other b o hwf harray x (by rwa [hlen])

/-- The completion of the data write `o`, with no beat to decide after it. -/
theorem next_channelWrite {t : State} (hrest : s.atRest) (ho : (s.bank b).op = some o) (hk : o.kind = .dataWrite n)
    (ht : s.completeWrite b n o = t) (hquiet : t.portQuiet) : exec (.channelWriteComplete b) s = .next t := by
  have he : s.channelWriteCompletes b = (s.completeWrite b n o).decideBeat := by
    simp only [State.channelWriteCompletes, ho, hk]
  refine (next_happen hrest).trans ?_
  rw [he, ht, t.decideBeat_quiet hquiet]

/-- A data write after which the descriptor goes on. -/
theorem write_goesOn (hrest : s.atRest) (hwf : s.tablesWf) (ho : (s.bank b).op = some o) (hk : o.kind = .dataWrite n)
    (hres : o.residual = false) (hlen : o.payload.length = o.words) (h8 : o.words ≤ 8) (hw : (s.chan n).work = some w)
    (hab : (s.chan n).aborting = false) (hquiet : s.portQuiet) (hmore : o.words < (s.chan n).remaining)
    (hop : w.op = .copy ∨ w.op = .pattern) (hlast : ∀ x ∈ (s.chan n).fifo, x.last = false) (hready : s.allReady) :
    ∃ t, exec (.channelWriteComplete b) s = .next t ∧ storedBy s t b o ∧ t.chan n = drainedChan (s.chan n) w o.words ∧
      (∀ c, { t.arb c with ch := (t.arb c).ch.set n none } =
        { s.columnDone b c with ch := (s.columnDone b c).ch.set n none }) ∧
      unchangedBut ([.array, .chan n, .bank b] ++ allArbs) s t := by
  have hmark : carriesLast (s.chan n) w o.words = false := by
    simp only [carriesLast, Bool.and_eq_false_imp]
    refine fun _ => List.any_eq_false.2 fun x hx => ?_
    simp [hlast x (List.mem_of_mem_take hx)]
  have he := State.completeWrite_eq (b := b) hres hw hab
  rw [if_neg (by simp only [hmark, Bool.false_eq_true, or_false]; omega)] at he
  have hdrained : unchangedBut [.array, .bank b, .arb b, .chan n] s (s.writeDrained b n o w) := State.writeDrained_frame
  obtain ⟨a, ha, harb⟩ := State.consider_allReady (s.writeDrained b n o w) n fun c =>
    (s.wordsStored_isReady b o c).trans (hready c)
  rw [ha] at he
  have hframe : unchangedBut ([.array, .chan n, .bank b] ++ allArbs) s { s.writeDrained b n o w with arbs := a } :=
    (hdrained.mono (by simp)).andThen (State.withArbs_frame _ a) (by grind)
  have hchan : State.chan { s.writeDrained b n o w with arbs := a } n = drainedChan (s.chan n) w o.words := State.writeDrained_chan
  refine ⟨_, next_channelWrite hrest ho hk he (portQuiet_of_frame (n := n) hquiet (hframe.mono (qs := .chan n ::
    ([.array, .bank b] ++ allArbs)) (by grind)) (by simp [allArbs]) (by simp [allArbs]) ?_), ?_, hchan, fun c => ?_, hframe⟩
  · exact State.eligible_of_no_stream _ n w (by rw [hchan]; exact hw) hop
  · exact storedBy_of_frame ((State.setChan_frame _ n _).mono (qs := .chan n :: allArbs) (by simp) |>.andThen
      (State.withArbs_frame _ a) (by simp)) (by simp [allArbs]) (by simp [allArbs]) hwf hlen h8
  · refine (harb c).trans ?_
    rw [show (s.writeDrained b n o w).arb c = s.columnDone b c from s.wordsStored_arb b o c]

/-- A data write that ends a descriptor with WB 1. -/
theorem write_reports (hrest : s.atRest) (hwf : s.tablesWf) (ho : (s.bank b).op = some o) (hk : o.kind = .dataWrite n)
    (hres : o.residual = false) (hlen : o.payload.length = o.words) (h8 : o.words ≤ 8) (hw : (s.chan n).work = some w)
    (hab : (s.chan n).aborting = false) (hquiet : s.portQuiet)
    (hend : (s.chan n).remaining - o.words = 0 ∨ carriesLast (s.chan n) w o.words = true) (hwb : w.wb = true)
    (hready : s.isReady (bankOf (descWord (s.chan n).desc)) = true) :
    ∃ t, exec (.channelWriteComplete b) s = .next t ∧ storedBy s t b o ∧
      t.chan n = { drainedChan (s.chan n) w o.words with ended := some (endOutcome (drainedChan (s.chan n) w o.words)) } ∧
      (∀ c, t.arb c = withRequest n (writebackRequest n (s.chan n).desc) c (s.columnDone b c)) ∧
      unchangedBut ([.array, .chan n, .bank b] ++ allArbs) s t := by
  have he := State.completeWrite_eq (b := b) hres hw hab
  rw [if_pos hend] at he
  have hdrained : unchangedBut [.array, .bank b, .arb b, .chan n] s (s.writeDrained b n o w) := State.writeDrained_frame
  have hdesc : ((s.writeDrained b n o w).chan n).desc = (s.chan n).desc := by
    rw [State.writeDrained_chan]
    rfl
  obtain ⟨hchan, harb, hreport⟩ := (s.writeDrained b n o w).endDescriptor_reports n w
    (endOutcome (drainedChan (s.chan n) w o.words)) hwb (by
      rw [hdesc]
      exact (s.wordsStored_isReady b o _).trans hready)
  rw [← he] at hchan harb hreport
  rw [State.writeDrained_chan] at hchan
  have hframe : unchangedBut ([.array, .chan n, .bank b] ++ allArbs) s (s.completeWrite b n o) :=
    (hdrained.mono (by simp)).andThen hreport (by grind)
  refine ⟨_, next_channelWrite hrest ho hk rfl (portQuiet_of_frame (n := n) hquiet (hframe.mono (qs := .chan n ::
    ([.array, .bank b] ++ allArbs)) (by grind)) (by simp [allArbs]) (by simp [allArbs]) ?_), ?_, hchan, fun c => ?_, hframe⟩
  · exact State.eligible_of_not_runs _ n (by rw [hchan]; simp [runs])
  · exact storedBy_of_frame (((State.setChan_frame _ n _).mono (qs := .chan n :: allArbs) (by simp)).andThen hreport (by simp))
      (by simp [allArbs]) (by simp [allArbs]) hwf hlen h8
  · rw [harb, hdesc, show (s.writeDrained b n o w).arb c = s.columnDone b c from s.wordsStored_arb b o c]

/-- The last data write of a descriptor with WB 0 and LAST 1. -/
theorem write_stops (hrest : s.atRest) (hwf : s.tablesWf) (ho : (s.bank b).op = some o) (hk : o.kind = .dataWrite n)
    (hres : o.residual = false) (hlen : o.payload.length = o.words) (h8 : o.words ≤ 8) (hw : (s.chan n).work = some w)
    (hab : (s.chan n).aborting = false) (hquiet : s.portQuiet) (hend : (s.chan n).remaining - o.words = 0) (hwb : w.wb = false)
    (hlast : w.last = true) :
    ∃ t, exec (.channelWriteComplete b) s = .next t ∧ storedBy s t b o ∧
      t.chan n = stoppedChan (countedChan (s.chan n)) .ended ∧ t.events = withEvent (notedEvents s.events n w) (.stop n) ∧
      t.arb b = s.columnDone b b ∧ unchangedBut [.array, .chan n, .events, .bank b, .arb b] s t := by
  let u := (s.writeDrained b n o w).setChan n { (s.writeDrained b n o w).chan n with
    ended := some (endOutcome (drainedChan (s.chan n) w o.words)) }
  have hu : unchangedBut [.chan n] (s.wordsStored b o) u := (State.setChan_frame _ n _).andThen (State.setChan_frame _ n _) (by simp)
  have hchan : u.chan n = { drainedChan (s.chan n) w o.words with
      ended := some (endOutcome (drainedChan (s.chan n) w o.words)) } := by
    rw [State.setChan_chan, if_pos rfl, State.writeDrained_chan]
  have he : s.completeWrite b n o = (u.reported n w).stopChan n .ended := by
    rw [State.completeWrite_eq hres hw hab, if_pos (.inl hend), State.endDescriptor_ends _ n w _ hwb]
    exact u.finishDescriptor_stops n w (.inr ⟨by rw [hchan]; exact hab, hlast, rfl⟩)
  have hlater : unchangedBut [.chan n, .events] (s.wordsStored b o) ((u.reported n w).stopChan n .ended) :=
    ((hu.mono (by simp)).andThen (u.reported_frame n w) (by simp)).andThen (State.stopChan_frame _ n _) (by simp)
  have hframe : unchangedBut [.array, .chan n, .events, .bank b, .arb b] s ((u.reported n w).stopChan n .ended) :=
    ((s.wordsStored_frame b o).mono (by simp)).andThen hlater (by simp)
  have hstop : ((u.reported n w).stopChan n .ended).chan n = stoppedChan (countedChan (s.chan n)) .ended := by
    rw [State.stopChan_chan, State.reported_chan, hchan]
    rfl
  refine ⟨_, next_channelWrite hrest ho hk he (portQuiet_of_frame (n := n) hquiet (hframe.mono (qs := .chan n ::
    [.array, .events, .bank b, .arb b]) (by simp)) (by simp) (by simp) ?_), ?_, hstop, ?_, ?_, hframe⟩
  · exact State.eligible_of_not_runs _ n (by rw [hstop]; rfl)
  · exact storedBy_of_frame hlater (by simp) (by simp) hwf hlen h8
  · rw [State.stopChan_events, State.reported_events, hu .events (by simp), s.wordsStored_frame b o .events (by simp)]
  · exact (hlater (.arb b) (by simp)).trans (s.wordsStored_arb b o b)

end

/-- A write descriptor that has not moved all its words ends SHORT, any other COMPLETE (R127). -/
theorem endOutcome_drained (c : Channel) (w : Work) (k : Nat) :
    endOutcome (drainedChan c w k) = if c.remaining - k = 0 then .complete else .short := rfl

/-- Settles O30: the grant in its two cases, then the completion in its four. -/
theorem channelWriteCountsDown : Obligations.ChannelWriteCountsDown := by
  refine ⟨fun s b n q w hd hlow hsole hother hk hkeep hw => ⟨fun hop => ?_, fun hop hu hslot hruns hread hready => ?_⟩,
    fun s b n o w hrest hwf ho hk hres hlen h8 hw hab hquiet => ⟨fun hmore hop hlast hready => ?_, fun heq hwb hready => ?_,
      fun hop hlast hmore hwb hready => ?_, fun heq hwb hlast => ?_⟩⟩
  · obtain ⟨t, ht, hbegun, hrest⟩ := grant_write_alone hd hlow hsole hk hkeep hw hop
    exact ⟨t, ht, State.grantPayload_write hk hw ▸ hbegun, hrest⟩
  · obtain ⟨t, ht, hbegun, hrest⟩ := grant_write_copies hd hlow hsole hother hk hkeep hw hop hu hslot hruns hread hready
    exact ⟨t, ht, State.grantPayload_write hk hw ▸ hbegun, hrest⟩
  · exact write_goesOn hrest hwf ho hk hres hlen h8 hw hab hquiet hmore hop hlast hready
  · have hzero : (s.chan n).remaining - o.words = 0 := by omega
    obtain ⟨t, ht, hstored, hchan, harb, hframe⟩ :=
      write_reports hrest hwf ho hk hres hlen h8 hw hab hquiet (.inl hzero) hwb hready
    refine ⟨t, ht, hstored, ?_, harb, hframe⟩
    rw [hchan, endOutcome_drained, if_pos hzero, drainedChan, hzero]
  · have hmark : carriesLast (s.chan n) w o.words = true := by
      obtain ⟨x, hx, hxl⟩ := hlast
      simp only [carriesLast, hop, Bool.and_eq_true]
      exact ⟨rfl, List.any_eq_true.2 ⟨x, hx, hxl⟩⟩
    obtain ⟨t, ht, hstored, hchan, harb, hframe⟩ :=
      write_reports hrest hwf ho hk hres hlen h8 hw hab hquiet (.inr hmark) hwb hready
    refine ⟨t, ht, hstored, ?_, harb, hframe⟩
    rw [hchan, endOutcome_drained, if_neg (by omega)]
    rfl
  · exact write_stops hrest hwf ho hk hres hlen h8 hw hab hquiet (by omega) hwb hlast

/-! ### The write-back (R128, R129) -/

section
variable {s : State} {b : BankNo} {n : ChanNo} {q : Request} {o : Op} {w : Work} {outcome : DescOutcome}

/-- A bit of the status word, field by field from the lowest (12.5). -/
theorem writebackWord_getLsbD (w : Work) (outcome : DescOutcome) (k i : Nat) :
    (writebackWord w outcome k).getLsbD i =
      if i < 16 then (BitVec.ofNat 16 k).getLsbD i
      else if i - 16 < 4 then (0#4).getLsbD (i - 16)
      else if i - 16 - 4 < 2 then (outcomeCode outcome).getLsbD (i - 16 - 4)
      else if i - 16 - 4 - 2 < 3 then (0#3).getLsbD (i - 16 - 4 - 2)
      else if i - 16 - 4 - 2 - 3 < 1 then (BitVec.ofBool w.wb).getLsbD (i - 16 - 4 - 2 - 3)
      else if i - 16 - 4 - 2 - 3 - 1 < 1 then (BitVec.ofBool w.last).getLsbD (i - 16 - 4 - 2 - 3 - 1)
      else if i - 16 - 4 - 2 - 3 - 1 - 1 < 1 then (BitVec.ofBool w.note).getLsbD (i - 16 - 4 - 2 - 3 - 1 - 1)
      else if i - 16 - 4 - 2 - 3 - 1 - 1 - 1 < 3 then (opCode w.op).getLsbD (i - 16 - 4 - 2 - 3 - 1 - 1 - 1)
      else (0#1).getLsbD (i - 16 - 4 - 2 - 3 - 1 - 1 - 1 - 3) := by
  have h : (writebackWord w outcome k).getLsbD i = BitVec.getLsbD (w := 1 + 3 + 1 + 1 + 1 + 3 + 2 + 4 + 16)
      (0#1 ++ opCode w.op ++ BitVec.ofBool w.note ++ BitVec.ofBool w.last ++ BitVec.ofBool w.wb ++ 0#3 ++ outcomeCode outcome
        ++ 0#4 ++ BitVec.ofNat 16 k) i := rfl
  simp only [h, BitVec.getLsbD_append]

/-- The fields of the status word (R128, 12.5). -/
theorem writebackWord_fields (w : Work) (outcome : DescOutcome) (k : Nat) :
    let z := writebackWord w outcome k
    z.getLsbD 31 = false ∧ z.extractLsb' 28 3 = opCode w.op ∧ z.getLsbD 27 = w.note ∧ z.getLsbD 26 = w.last ∧
      z.getLsbD 25 = w.wb ∧ z.extractLsb' 22 3 = 0#3 ∧ z.extractLsb' 20 2 = outcomeCode outcome ∧ z.extractLsb' 16 4 = 0#4 ∧
      z.extractLsb' 0 16 = BitVec.ofNat 16 k := by
  have hbits := writebackWord_getLsbD w outcome k
  have hfield : ∀ (start len : Nat) (x : BitVec len),
      (∀ i < len, (writebackWord w outcome k).getLsbD (start + i) = x.getLsbD i) →
        (writebackWord w outcome k).extractLsb' start len = x := fun start len x h =>
    BitVec.eq_of_getLsbD_eq fun i hi => by rw [BitVec.getLsbD_extractLsb', h i hi]; simp [hi]
  refine ⟨by rw [hbits]; rfl, hfield _ _ _ fun i hi => ?_, by rw [hbits]; simp, by rw [hbits]; simp, by rw [hbits]; simp,
    hfield _ _ _ fun i hi => ?_, hfield _ _ _ fun i hi => ?_, hfield _ _ _ fun i hi => ?_, hfield _ _ _ fun i hi => ?_⟩ <;>
  · rw [hbits]
    interval_cases i <;> simp
/-- BANK_GRANT of a lone write-back: its descriptor has ended, and the channel asks for nothing more. -/
theorem grant_writeback (hd : s.decides b) (hlow : (s.account b).balance ≤ 4) (h : s.solePending b (.ch n) q)
    (hk : q.kind = .writeback n) (hkeep : (s.group (groupOf q.addr)).state = .keep) (he : (s.chan n).ended = some outcome) :
    ∃ t, exec (.bankGrant b) s = .next t ∧ begun s t b q (s.grantPayload q) ∧
      t.arb b = s.afterNormal b (.ch n) (positionOf (.ch n)) q ∧ unchangedBut [.bank b, .arb b] s t := by
  obtain ⟨hdue, hgrants⟩ := State.grants_lone hd hlow h hkeep
  have hframe : unchangedBut [.bank b, .arb b] s (s.columnBegun b n q) := State.columnBegun_frame
  have hruns : runs ((s.columnBegun b n q).chan n) = false := by
    rw [hframe (.chan n) (by simp)]
    simp [runs, he]
  have hbegun : s.grants b 16 = s.columnBegun b n q := by
    have hconsider : (s.columnBegun b n q).granted (.ch n) q = (s.columnBegun b n q).consider n := by
      simp only [State.granted, hk]
    rw [hgrants, hconsider, State.consider_of_not_runs _ n hruns]
  have hmeet : s.meet (s.columnBegun b n q) = s.columnBegun b n q :=
    State.meet_of_begun (n := n) (by rw [State.columnBegun_bank]; rfl) (fun c hc => hframe (.bank c) (by simp [hc]))
      (fun c => hframe (.account c) (by simp)) fun c hc => ⟨q, .inr (hframe (.arb c) (by simp [hc]))⟩
  refine ⟨_, next_ownIfDue hdue, ?_⟩
  rw [show s.ownStep (.bankGrant b) = s.meet (s.grants b 16) from rfl, hbegun, hmeet]
  exact ⟨begun_of_columnBegun rfl, State.columnBegun_arb, hframe⟩

theorem State.grantPayload_writeback (hk : q.kind = .writeback n) (hw : (s.chan n).work = some w)
    (he : (s.chan n).ended = some outcome) :
    s.grantPayload q = [encodeWord (writebackWord w outcome (w.count - (s.chan n).remaining))] := by
  simp only [State.grantPayload, hk, hw, he, transferred]

/-- What follows a write-back: a stop as ABORTED after the report of an abort, else the end of the report (R129, R141). -/
theorem State.completeWriteback_eq (hres : o.residual = false) (hw : (s.chan n).work = some w) (he : (s.chan n).ended = some outcome) :
    s.completeWriteback b n o = if outcome = .aborted then (s.wordsStored b o).stopChan n .aborted
      else (s.wordsStored b o).finishDescriptor n w := by
  have hchan : ((s.setWords o.addr o.payload).finishColumn b).chan n = s.chan n := s.wordsStored_frame b o (.chan n) (by simp)
  simp only [State.completeWriteback, hres, Bool.false_eq_true, if_false, hchan, hw, he]
  rfl

/-- The completion of the write-back `o`. -/
theorem next_writeback (hrest : s.atRest) (ho : (s.bank b).op = some o) (hk : o.kind = .writeback n) :
    exec (.writebackComplete b) s = .next (s.completeWriteback b n o) := by
  refine (next_happen hrest).trans ?_
  simp only [State.writebackCompletes, ho, hk]

/-- The word of the write-back, and no other, is stored, and bank `b` has finished its column operation (R12, R16). -/
def wordStoredBy (s t : State) (b : BankNo) (a : WordAddr) (x : Stored) : Prop :=
  t.word a = x ∧ (∀ y, y ≠ a → t.word y = s.word y) ∧ t.bank b = afterColumn s.config.hold (s.bank b)

theorem wordStoredBy_of_frame {t : State} {ps : List Part} {x : Stored} (hf : unchangedBut ps (s.wordsStored b o) t)
    (ha : .array ∉ ps) (hb : .bank b ∉ ps) (hwf : s.tablesWf) (hp : o.payload = [x]) : wordStoredBy s t b o.addr x := by
  have hword : ∀ y, t.word y = if y = o.addr then x else s.word y := fun y => by
    rw [State.word, hf .array ha, s.wordsStored_array b o, ← s.setWord_word o.addr y x hwf, hp]
    rfl
  exact ⟨by rw [hword, if_pos rfl], fun y hy => by rw [hword, if_neg hy], (hf (.bank b) hb).trans (s.wordsStored_bank b o)⟩

/-- A write-back whose descriptor is reported ends in a stop (R129, R141). -/
theorem writeback_stops {x : Stored} {why : StopReason} (hwf : s.tablesWf) (hp : o.payload = [x])
    (h : ((s.chan n).aborting = true ∧ why = .aborted) ∨ ((s.chan n).aborting = false ∧ w.last = true ∧ why = .ended)) :
    wordStoredBy s ((s.wordsStored b o).finishDescriptor n w) b o.addr x ∧
      ((s.wordsStored b o).finishDescriptor n w).chan n = stoppedChan (countedChan (s.chan n)) why ∧
      ((s.wordsStored b o).finishDescriptor n w).events = withEvent (notedEvents s.events n w) (.stop n) ∧
      ((s.wordsStored b o).finishDescriptor n w).arb b = s.columnDone b b ∧
      unchangedBut [.array, .chan n, .events, .bank b, .arb b] s ((s.wordsStored b o).finishDescriptor n w) := by
  have hbase : unchangedBut [.array, .bank b, .arb b] s (s.wordsStored b o) := s.wordsStored_frame b o
  have hchan : (s.wordsStored b o).chan n = s.chan n := hbase (.chan n) (by simp)
  have hstop : unchangedBut [.chan n, .events] (s.wordsStored b o) (((s.wordsStored b o).reported n w).stopChan n why) :=
    (State.reported_frame _ n w).andThen (State.stopChan_frame _ n why) (by simp)
  rw [State.finishDescriptor_stops _ n w (by rwa [hchan])]
  refine ⟨wordStoredBy_of_frame hstop (by simp) (by simp) hwf hp, ?_, ?_, ?_, (hbase.mono (by simp)).andThen hstop (by simp)⟩
  · rw [State.stopChan_chan, State.reported_chan, hchan]
  · rw [State.stopChan_events, State.reported_events, hbase .events (by simp)]
  · exact (hstop (.arb b) (by simp)).trans (s.wordsStored_arb b o b)

end

/-- Settles O31: the grant, then the completion in its four cases. -/
theorem writebackEndsDescriptor : Obligations.WritebackEndsDescriptor := by
  refine ⟨fun s b n q w outcome hd hlow hsole hk hkeep hw he => ?_, fun s b n o x w outcome hrest hwf ho hk hres hp hw he => ?_⟩
  · obtain ⟨t, ht, hbegun, harb, hframe⟩ := grant_writeback hd hlow hsole hk hkeep he
    obtain ⟨h1, h2, h3, h4, h5, h6, h7, h8, h9⟩ := writebackWord_fields w outcome (w.count - (s.chan n).remaining)
    refine ⟨t, _, ht, State.grantPayload_writeback hk hw he ▸ hbegun, h1, h2, h3, h4, h5, h6, h7.trans ?_, h8, h9, harb, hframe⟩
    cases outcome <;> rfl
  · have hcomplete := State.completeWriteback_eq (b := b) hres hw he
    have hnext := next_writeback hrest ho hk
    have hbase : unchangedBut [.array, .bank b, .arb b] s (s.wordsStored b o) := s.wordsStored_frame b o
    have hchan : (s.wordsStored b o).chan n = s.chan n := hbase (.chan n) (by simp)
    have hevents : (s.wordsStored b o).events = s.events := hbase .events (by simp)
    have harb := s.wordsStored_arb b o
    rw [hcomplete] at hnext
    refine ⟨fun hab => ?_, fun hout hab => ?_, fun hout hab hlast => ?_, fun hout hab hlast hleft hready => ?_⟩
    · rw [if_pos hab] at hnext
      have hstop := (s.wordsStored b o).stopChan_frame n .aborted
      refine ⟨_, hnext, wordStoredBy_of_frame hstop (by simp) (by simp) hwf hp, ?_, ?_, ?_, ?_⟩
      · rw [State.stopChan_chan, hchan]
      · rw [State.stopChan_events, hevents]
      · rw [hstop (.arb b) (by simp), harb]
      · exact (hbase.mono (by simp)).andThen hstop (by simp)
    · rw [if_neg hout] at hnext
      exact ⟨_, hnext, writeback_stops hwf hp (.inl ⟨hab, rfl⟩)⟩
    · rw [if_neg hout] at hnext
      exact ⟨_, hnext, writeback_stops hwf hp (.inr ⟨hab, hlast, rfl⟩)⟩
    · rw [if_neg hout] at hnext
      obtain ⟨hc, ha, hev, hf⟩ := (s.wordsStored b o).finishDescriptor_follows n w rfl (by rwa [hchan]) hlast (by rwa [hchan])
        ((s.wordsStored_isReady b o _).trans hready)
      refine ⟨_, hnext, wordStoredBy_of_frame hf (by simp [allArbs]) (by simp [allArbs]) hwf hp, ?_, fun c => ?_, ?_, ?_⟩
      · rw [hc, hchan]
        rfl
      · rw [ha, harb]
        rfl
      · rw [hev, hevents]
        rfl
      · exact (hbase.mono (by simp)).andThen hf (by grind)

end Sys2Proof.Machine
end

section
-- One thread at a time: the stack of each thread counts against the memory limit of the check.
set_option Elab.async false
/-! SUPPORT. Proofs/GroupsStay.lean: the operations that leave the Row Group Table as it is, in the order of the model's files. -/

namespace Sys2Proof.Machine

/-! ### Updates of one form -/

theorem foldl_groups {α : Type} {f : State → α → State} (hf : ∀ u x, (f u x).groups = u.groups) (l : List α) :
    ∀ s, (l.foldl f s).groups = s.groups := by
  induction l with
  | nil => exact fun _ => rfl
  | cons x rest ih => exact fun s => (ih _).trans (hf s x)

theorem State.forTogether_groups {α : Type} (s : State) (l : List α) {f : α → State → State}
    (hf : ∀ x u, (f x u).groups = u.groups) : (s.forTogether l f).groups = s.groups := by
  unfold State.forTogether
  split
  · exact foldl_groups (fun u x => hf x u) _ _
  · exact foldl_groups (fun u x => hf x u) _ _

/-! ### Sequencer, refresh, fill engine -/

section
variable (s : State)

@[simp] theorem State.closeRow_groups (b : BankNo) : (s.closeRow b).groups = s.groups := s.closeRow_frame b .groups (by simp)

@[simp] theorem State.startClosed_groups (b : BankNo) (kind : OpKind) (addr : WordAddr) :
    (s.startClosed b kind addr).groups = s.groups := s.startClosed_frame b kind addr .groups (by simp)

@[simp] theorem State.setWords_groups (w : WordAddr) (xs : List Stored) : (s.setWords w xs).groups = s.groups :=
  s.setWords_frame w xs .groups (by simp)

@[simp] theorem State.applySkip_groups (b : BankNo) : (s.applySkip b).groups = s.groups :=
  s.applySkip_frame b .groups (by simp)

@[simp] theorem State.applySkips_groups : s.applySkips.groups = s.groups := s.applySkips_frame .groups (by simp [allAccounts])

@[simp] theorem State.placeFill_groups (g seg : Nat) : (s.placeFill g seg).groups = s.groups := by
  simp [State.placeFill, apply_ite State.groups]

@[simp] theorem State.restartFill_groups (g : Nat) : (s.restartFill g).groups = s.groups := by
  simp [State.restartFill, apply_ite State.groups]

@[simp] theorem State.requestSegment_groups : s.requestSegment.groups = s.groups := by
  unfold State.requestSegment
  split <;> simp [apply_ite State.groups]

@[simp] theorem State.holdFill_groups : s.holdFill.groups = s.groups := rfl

/-! ### Transfer channels -/

@[simp] theorem State.resetChan_groups (n : ChanNo) : (s.resetChan n).groups = s.groups :=
  s.resetChan_frame n .groups (by simp [allArbs, allBanks])

@[simp] theorem State.markResidual_groups (n : ChanNo) : (s.markResidual n).groups = s.groups :=
  s.markResidual_frame n .groups (by simp [allBanks])

@[simp] theorem State.dropWork_groups (n : ChanNo) : (s.dropWork n).groups = s.groups :=
  s.dropWork_frame n .groups (by simp [allArbs, allBanks])

@[simp] theorem State.haltChan_groups (n : ChanNo) (code : FaultCode) (w : Option WordAddr) :
    (s.haltChan n code w).groups = s.groups := by
  simp [State.haltChan]

@[simp] theorem State.failChan_groups (n : ChanNo) (r : Request) (code : FaultCode) :
    (s.failChan n r code).groups = s.groups := by
  unfold State.failChan
  split <;> simp

@[simp] theorem State.placeChan_groups (n : ChanNo) (r : Request) : (s.placeChan n r).groups = s.groups := by
  simp [State.placeChan, apply_ite State.groups]

@[simp] theorem State.enterLoading_groups (n : ChanNo) : (s.enterLoading n).groups = s.groups := by
  simp [State.enterLoading, apply_ite State.groups]

@[simp] theorem State.consider_groups (n : ChanNo) : (s.consider n).groups = s.groups := by
  unfold State.consider
  dsimp only
  split
  · rfl
  · split
    · split <;> simp
    · rfl

@[simp] theorem State.stopChan_groups (n : ChanNo) (why : StopReason) : (s.stopChan n why).groups = s.groups := rfl

@[simp] theorem State.finishDescriptor_groups (n : ChanNo) (w : Work) : (s.finishDescriptor n w).groups = s.groups := by
  simp [State.finishDescriptor, apply_ite State.groups]

@[simp] theorem State.endDescriptor_groups (n : ChanNo) (w : Work) (outcome : DescOutcome) :
    (s.endDescriptor n w outcome).groups = s.groups := by
  simp [State.endDescriptor, apply_ite State.groups]

@[simp] theorem State.withdrawData_groups (n : ChanNo) : (s.withdrawData n).groups = s.groups := by
  simp [State.withdrawData, apply_ite State.groups]

@[simp] theorem State.addPause_groups (n : ChanNo) (p : Pauses) : (s.addPause n p).groups = s.groups := by
  simp [State.addPause, apply_ite State.groups]

@[simp] theorem State.removePause_groups (n : ChanNo) (p : Pauses) : (s.removePause n p).groups = s.groups := by
  unfold State.removePause
  dsimp only
  split
  · split <;> simp [apply_ite State.groups]
  · rfl

@[simp] theorem State.reportAbort_groups (n : ChanNo) : (s.reportAbort n).groups = s.groups := by
  unfold State.reportAbort
  split <;> simp [apply_ite State.groups]

@[simp] theorem State.abortChan_groups (n : ChanNo) : (s.abortChan n).groups = s.groups := by
  unfold State.abortChan
  dsimp only
  split <;> simp [apply_ite State.groups]

@[simp] theorem State.clearResidual_groups (n : ChanNo) : (s.clearResidual n).groups = s.groups := by
  simp [State.clearResidual, apply_ite State.groups]

@[simp] theorem State.takeDescriptor_groups (n : ChanNo) (w0 w1 w2 w3 : Word) :
    (s.takeDescriptor n w0 w1 w2 w3).groups = s.groups := by
  unfold State.takeDescriptor
  dsimp only
  split
  · split <;> simp [apply_ite State.groups]
  · rfl

@[simp] theorem State.completeWrite_groups (b : BankNo) (n : ChanNo) (o : Op) : (s.completeWrite b n o).groups = s.groups := by
  unfold State.completeWrite
  dsimp only
  split
  · simp
  · split <;> simp [apply_ite State.groups]

@[simp] theorem State.completeWriteback_groups (b : BankNo) (n : ChanNo) (o : Op) :
    (s.completeWriteback b n o).groups = s.groups := by
  unfold State.completeWriteback
  dsimp only
  split
  · simp
  · split <;> simp [apply_ite State.groups]

/-! ### Host port -/

@[simp] theorem State.failHead_groups (code : FaultCode) : (s.failHead code).groups = s.groups := by
  unfold State.failHead
  split <;> simp

@[simp] theorem State.dropHead_groups : s.dropHead.groups = s.groups := rfl

theorem State.placeHeads_groups (fuel : Nat) : ∀ s : State, (s.placeHeads fuel).groups = s.groups := by
  induction fuel with
  | zero => exact fun _ => rfl
  | succ fuel ih =>
    intro s
    unfold State.placeHeads
    split
    · rfl
    · simp [apply_ite State.groups, ih]

@[simp] theorem State.placeHead_groups : s.placeHead.groups = s.groups := State.placeHeads_groups _ s

@[simp] theorem State.readToArray_groups (w : WordAddr) : (s.readToArray w).groups = s.groups := by
  simp [State.readToArray, apply_ite State.groups]

@[simp] theorem State.startRead_groups (w : WordAddr) : (s.startRead w).groups = s.groups := by
  unfold State.startRead
  split <;> simp [apply_ite State.groups]

@[simp] theorem State.acceptWrite_groups (w : WordAddr) (lanes : BitVec 4) (data : Word) :
    (s.acceptWrite w lanes data).groups = s.groups := by
  simp [State.acceptWrite, apply_ite State.groups]

@[simp] theorem State.startWrite_groups (w : WordAddr) (lanes : BitVec 4) (data : Word) :
    (s.startWrite w lanes data).groups = s.groups := by
  simp [State.startWrite, apply_ite State.groups]

@[simp] theorem State.drainEnd_groups : s.drainEnd.groups = s.groups := by
  unfold State.drainEnd
  split <;> simp

@[simp] theorem State.heldWrite_groups : s.heldWrite.groups = s.groups := by
  unfold State.heldWrite
  split <;> simp

@[simp] theorem State.completeHostWrite_groups (b : BankNo) (o : Op) : (s.completeHostWrite b o).groups = s.groups := by
  simp [State.completeHostWrite]

/-! ### Scrubber, and banks that leave READY -/

@[simp] theorem State.meet_groups (t : State) : (s.meet t).groups = t.groups := by
  obtain ⟨a, ha, -⟩ := s.meet_eq t
  rw [ha]

@[simp] theorem State.searchScrub_groups : s.searchScrub.groups = s.groups := by
  obtain ⟨-, -, hf⟩ := s.searchScrub_rule
  exact hf .groups (by simp [allArbs])

@[simp] theorem State.nextScrubRow_groups : s.nextScrubRow.groups = s.groups := s.nextScrubRow_frame .groups (by simp)

@[simp] theorem State.nextScrubSegment_groups : s.nextScrubSegment.groups = s.groups := by
  simp [State.nextScrubSegment, apply_ite State.groups]

@[simp] theorem State.passOnScrub_groups : s.passOnScrub.groups = s.groups := by
  simp [State.passOnScrub]

@[simp] theorem State.tickScrub_groups : s.tickScrub.groups = s.groups := by
  simp [State.tickScrub]

@[simp] theorem State.holdScrub_groups : s.holdScrub.groups = s.groups := rfl

@[simp] theorem State.releaseScrub_groups : s.releaseScrub.groups = s.groups := by
  simp [State.releaseScrub, apply_ite State.groups]

@[simp] theorem State.resetScrub_groups : s.resetScrub.groups = s.groups := rfl

@[simp] theorem State.answer_groups (b : BankNo) (x : Answered) : (s.answer b x).groups = s.groups := by
  cases x with
  | host =>
    simp only [State.answer, State.answerHost]
    split <;> simp [apply_ite State.groups]
  | ch n =>
    simp only [State.answer, State.answerChan]
    split <;> simp

@[simp] theorem State.answerPending_groups (b : BankNo) : (s.answerPending b).groups = s.groups := by
  simp [State.answerPending, apply_ite State.groups, State.forTogether_groups]

@[simp] theorem State.goOff_groups (b : BankNo) : (s.goOff b).groups = s.groups := by
  simp [State.goOff]

@[simp] theorem State.beginOrder_groups (b : BankNo) (o : RetentionOrder) : (s.beginOrder b o).groups = s.groups := by
  simp [State.beginOrder]

/-! ### Arbiter and stream port -/

@[simp] theorem State.parted_groups (b : BankNo) : (s.parted b).groups = s.groups := s.parted_frame b .groups (by simp)

@[simp] theorem State.takeRequest_groups (b : BankNo) (r : Requester) : (s.takeRequest b r).groups = s.groups :=
  s.takeRequest_frame b r .groups (by simp)

@[simp] theorem State.countGrant_groups (b : BankNo) (r : Requester) (how : Picked) (hit : Bool) :
    (s.countGrant b r how hit).groups = s.groups := s.countGrant_frame b r how hit .groups (by simp)

@[simp] theorem State.granted_groups (r : Requester) (q : Request) : (s.granted r q).groups = s.groups := by
  unfold State.granted
  split
  · simp [apply_ite State.groups]
  · split <;> simp
  all_goals rfl

@[simp] theorem State.beginRefresh_groups (b : BankNo) (how : Picked) : (s.beginRefresh b how).groups = s.groups := by
  simp [State.beginRefresh]

@[simp] theorem State.beginGranted_groups (b : BankNo) (r : Requester) (how : Picked) (q : Request) :
    (s.beginGranted b r how q).groups = s.groups := by
  simp [State.beginGranted]

@[simp] theorem State.decideBeat_groups : s.decideBeat.groups = s.groups := by
  unfold State.decideBeat
  split
  · rfl
  · split <;> rfl

@[simp] theorem State.take_groups (x : Beat) (sd : Word) (slast : Bool) : (s.take x sd slast).groups = s.groups := by
  have hout : ∀ (u : State) (n : ChanNo), (u.endOutBeat n slast).groups = u.groups := fun u n => by
    unfold State.endOutBeat
    dsimp only
    split <;> simp [apply_ite State.groups]
  unfold State.take
  dsimp only
  split
  · simp
  · split <;> simp [State.endInBeat, hout]

/-! ### Retention controller -/

@[simp] theorem State.holdChan_groups (n : ChanNo) : (s.holdChan n).groups = s.groups := by
  unfold State.holdChan
  split <;> simp

@[simp] theorem State.enterQuiescing_groups : s.enterQuiescing.groups = s.groups := by
  simp [State.enterQuiescing, foldl_groups]

theorem State.giveOrder_groups (b : BankNo) (o : Option RetentionOrder) : (s.giveOrder b o).groups = s.groups := by
  unfold State.giveOrder
  split <;> simp [apply_ite State.groups]

@[simp] theorem State.commit_groups : s.commit.groups = s.groups := by
  simp [State.commit, State.forTogether_groups, foldl_groups, State.giveOrder_groups]

@[simp] theorem State.enterWaking_groups : s.enterWaking.groups = s.groups := by
  have hwake : ∀ (u : State) (b : BankNo), (u.wakeBank b).groups = u.groups := fun u b => by
    unfold State.wakeBank
    split <;> simp
  simp [State.enterWaking, foldl_groups hwake]

@[simp] theorem State.settle_groups : s.settle.groups = s.groups := by
  simp [State.settle, apply_ite State.groups]

@[simp] theorem State.retReqRises_groups : s.retReqRises.groups = s.groups := by
  unfold State.retReqRises
  split <;> simp

/-! ### Completions, own steps, timers, registers -/

@[simp] theorem State.comeUp_groups (b : BankNo) (x : Int) (c : BitVec 8) : (s.comeUp b x c).groups = s.groups :=
  s.comeUp_frame b x c .groups (by simp)

theorem State.onOp_groups {b : BankNo} {p : OpKind → Bool} {f : Op → State} (hf : ∀ o, (f o).groups = s.groups) :
    (s.onOp b p f).groups = s.groups := by
  unfold State.onOp
  split
  · split
    · exact hf _
    · rfl
  · rfl

@[simp] theorem State.switchOff_groups (b : BankNo) : (s.switchOff b).groups = s.groups := by
  simp [State.switchOff, apply_ite State.groups]

@[simp] theorem State.startOrder_groups (b : BankNo) : (s.startOrder b).groups = s.groups := by
  unfold State.startOrder
  split <;> simp

@[simp] theorem State.releaseReset_groups : s.releaseReset.groups = s.groups := by
  simp [State.releaseReset, apply_ite State.groups]

@[simp] theorem State.pageHoldExpires_groups (b : BankNo) : (s.pageHoldExpires b).groups = s.groups := by
  simp [State.pageHoldExpires, apply_ite State.groups]

@[simp] theorem State.writeFence_groups (n : ChanNo) (limit : Bool) (x : Word) :
    (s.writeFence n limit x).groups = s.groups := by
  simp [State.writeFence, apply_ite State.groups]

@[simp] theorem State.storeRegister_groups (reg : BitVec 6) (x : Word) : (s.storeRegister reg x).groups = s.groups := by
  unfold State.storeRegister
  split
  case h_7 => simp [apply_ite State.groups]
  all_goals rfl

end

end Sys2Proof.Machine
end

section
-- One thread at a time: the stack of each thread counts against the memory limit of the check.
set_option Elab.async false
/-! SUPPORT. Proofs/NoNewKeep.lean: the canonical tables, and the operations after which no group is KEEP that was not before: all but the
completion of a fill segment (R33). -/

namespace Sys2Proof.Machine

/-- Settles O8: of all that `Keeps` carries through a step, the tables. -/
theorem everyStepKeepsTables : Obligations.EveryStepKeepsTables :=
  fun _ _ hw hs => (keeps_of_step hs).tables hw

/-- From `s` to `t` no group becomes KEEP, and the Row Group Table stays in canonical form. -/
structure NoNewKeep (s t : State) : Prop where
  table : TableWf blankGroup s.groups → TableWf blankGroup t.groups
  keep : TableWf blankGroup s.groups → ∀ g, (t.group g).state = .keep → (s.group g).state = .keep

namespace NoNewKeep

variable {s t u : State}

/-! ### Rules -/

theorem refl (s : State) : NoNewKeep s s := ⟨id, fun _ _ => id⟩

/-- Work that leaves the Row Group Table alone. -/
theorem same (h : NoNewKeep s t) (hg : u.groups = t.groups) : NoNewKeep s u := by
  have hgroup : ∀ g, u.group g = t.group g := fun g => by rw [State.group, hg, State.group]
  exact ⟨fun hw => hg ▸ h.table hw, fun hw g hk => h.keep hw g (hgroup g ▸ hk)⟩

/-- A group may be given any entry that is not KEEP, and any at all when it is KEEP already. -/
theorem setGroup (h : NoNewKeep s t) (g : Nat) (x : Group) (hx : x.state = .keep → (t.group g).state = .keep) :
    NoNewKeep s (t.setGroup g x) := by
  refine ⟨fun hw => tableWrite_wf g x (h.table hw), fun hw k hk => h.keep hw k ?_⟩
  rw [State.group, State.setGroup, tableRead_tableWrite g k x (h.table hw)] at hk
  split at hk
  · rename_i hkg
    exact hkg ▸ hx hk
  · exact hk

theorem setGroupState (h : NoNewKeep s t) (g : Nat) {st : GroupState} (hst : st ≠ .keep) :
    NoNewKeep s (t.setGroupState g st) :=
  h.setGroup g _ fun hk => absurd hk hst

theorem discard (h : NoNewKeep s t) (g : Nat) : NoNewKeep s (t.setGroup g blankGroup) :=
  h.setGroup g _ fun hk => absurd hk (by decide)

/-- Entries taken out of the Row Group Table read as DISCARD. -/
theorem discardPending (h : NoNewKeep s t) : NoNewKeep s t.discardPending := by
  refine ⟨fun hw => filter_wf _ (h.table hw), fun hw g hk => h.keep hw g ?_⟩
  rw [State.group, State.discardPending, tableRead_filter _ g (h.table hw)] at hk
  split at hk
  · exact hk
  · exact absurd hk (by decide)

theorem foldl {α : Type} {f : State → α → State} (hf : ∀ u x, NoNewKeep s u → NoNewKeep s (f u x)) (l : List α) :
    ∀ {t : State}, NoNewKeep s t → NoNewKeep s (l.foldl f t) := by
  induction l with
  | nil => exact fun h => h
  | cons x rest ih => exact fun h => ih (hf _ x h)

theorem forTogether {α : Type} (h : NoNewKeep s t) (l : List α) {f : α → State → State}
    (hf : ∀ x u, NoNewKeep s u → NoNewKeep s (f x u)) : NoNewKeep s (t.forTogether l f) := by
  unfold State.forTogether
  split
  · exact foldl (fun u x => hf x u) _ h
  · exact foldl (fun u x => hf x u) _ (h.same rfl)

/-! ### Check unit -/

/-- A weak count rises in a KEEP group only (R85). -/
theorem weakRise (h : NoNewKeep s t) (source : Source) (g : Nat) : NoNewKeep s (t.weakRise source g) := by
  unfold State.weakRise
  dsimp only
  split
  · rename_i hk
    have h' := h.setGroup g { t.group g with weak := (t.group g).weak + 1 } fun _ => hk.1
    split
    · exact h'.same (by simp)
    · exact h'
  · exact h

theorem checkRead (h : NoNewKeep s t) (source : Source) (wb : Bool) (w : WordAddr) :
    NoNewKeep s (t.checkRead source wb w) := by
  unfold State.checkRead
  dsimp only
  split
  · exact h
  · exact (h.same (by simp [apply_ite State.groups])).weakRise _ _
  · exact h.same (by simp)

theorem checkBurst (h : NoNewKeep s t) (source : Source) (wb : Bool) (ws : List WordAddr) :
    NoNewKeep s (t.checkBurst source wb ws) :=
  foldl (fun _ w hu => hu.checkRead source wb w) ws h

theorem mergeWord (h : NoNewKeep s t) (w : WordAddr) (lanes : BitVec 4) (data : Word) :
    NoNewKeep s (t.mergeWord w lanes data) := by
  unfold State.mergeWord
  dsimp only
  split
  · exact h.same rfl
  · exact (h.same (by simp)).weakRise _ _
  · exact h.same (by simp)

/-! ### Ticks -/

/-- An overrun makes a KEEP group LAPSED, and no group KEEP (R48). -/
theorem sacrifice (h : NoNewKeep s t) (g : Nat) : NoNewKeep s (t.sacrifice g) := by
  unfold State.sacrifice
  split
  · exact (h.setGroupState g (st := .lapsed) (by decide)).same (by simp)
  · exact h.same (by simp)
  all_goals exact h

theorem tickBank (h : NoNewKeep s t) (b : BankNo) : NoNewKeep s (t.tickBank b) := by
  unfold State.tickBank
  dsimp only
  split
  · split
    · exact h.same (by simp)
    · split
      · exact h.sacrifice _
      · exact (h.sacrifice (t.cursorGroup b)).same (by simp)
  · exact h.same (by simp [apply_ite State.groups])
  all_goals exact h

theorem refreshTick (h : NoNewKeep s t) : NoNewKeep s t.refreshTick :=
  (foldl (fun _ b hu => hu.tickBank b) Four.indices (h.same (u := { t with tick := { t.tick with count := 0 } }) rfl)).same
    (by simp [State.refreshTick])

/-! ### Fill engine, its completions apart -/

theorem markGroups (h : NoNewKeep s t) (gs : List Nat) {st : GroupState} (hst : st ≠ .keep) :
    NoNewKeep s (t.markGroups gs st) :=
  foldl (fun _ g hu => hu.setGroupState g hst) gs h

theorem discardGroups (h : NoNewKeep s t) (gs : List Nat) (from_ : List GroupState) :
    NoNewKeep s (t.discardGroups gs from_) := by
  refine foldl (fun u g hu => ?_) gs h
  split
  · exact hu.discard g
  · exact hu

/-- The group taken up becomes FILLING (R30). -/
theorem takeUp (h : NoNewKeep s t) : NoNewKeep s t.takeUp := by
  unfold State.takeUp
  split
  · exact h
  · rename_i e _ _
    exact (h.setGroupState e.next (st := .filling) (by decide)).same (by simp)

theorem releaseFill (h : NoNewKeep s t) : NoNewKeep s t.releaseFill := by
  have h' : NoNewKeep s { t with fill := { t.fill with held := false } } := h.same rfl
  unfold State.releaseFill
  dsimp only
  split
  · split
    · exact h'.takeUp
    · exact h'.same (by simp)
  · exact h'

theorem resetFill (h : NoNewKeep s t) : NoNewKeep s t.resetFill := by
  have h' : NoNewKeep s t.withdrawFill.discardPending := NoNewKeep.discardPending (h.same rfl)
  unfold State.resetFill
  dsimp only
  split
  · exact h'.same rfl
  · exact (h'.discard _).same rfl
  · exact h'.same rfl

/-! ### Operations that read words -/

theorem completeFetch (h : NoNewKeep s t) (b : BankNo) (n : ChanNo) (o : Op) : NoNewKeep s (t.completeFetch b n o) := by
  refine (h.checkBurst (.ch n) o.writesBack (burstAddrs o.addr o.words)).same ?_
  unfold State.completeFetch
  dsimp only
  split
  · simp
  · split
    · simp
    · split <;> simp

theorem completeRead (h : NoNewKeep s t) (b : BankNo) (n : ChanNo) (o : Op) : NoNewKeep s (t.completeRead b n o) := by
  refine (h.checkBurst (.ch n) o.writesBack (burstAddrs o.addr o.words)).same ?_
  unfold State.completeRead
  dsimp only
  split
  · simp
  · split <;> simp

theorem completeHostRead (h : NoNewKeep s t) (b : BankNo) (o : Op) : NoNewKeep s (t.completeHostRead b o) := by
  refine (h.checkBurst .host o.writesBack (burstAddrs o.addr o.words)).same ?_
  unfold State.completeHostRead
  dsimp only
  split <;> simp

theorem completeMerge (h : NoNewKeep s t) (b : BankNo) (o : Op) : NoNewKeep s (t.completeMerge b o) := by
  unfold State.completeMerge
  split
  · exact h.same (by simp)
  · rename_i e _ _
    exact (h.mergeWord o.addr e.lanes e.data).same (by simp)

theorem completeScrub (h : NoNewKeep s t) (b : BankNo) (o : Op) : NoNewKeep s (t.completeScrub b o) :=
  (h.checkBurst .scrub true (burstAddrs o.addr o.words)).same (by simp [State.completeScrub, apply_ite State.groups])

/-! ### Grants -/

theorem lapsed (h : NoNewKeep s t) (r : Requester) (q : Request) : NoNewKeep s (t.lapsed r q) := by
  cases r with
  | fill =>
    simp only [State.lapsed, State.fillCheckFailed]
    split
    · exact h
    · exact h.resetFill
  | host => exact h.same (by simp [State.lapsed, apply_ite State.groups])
  | _ => exact h.same (by simp [State.lapsed])

theorem grants (b : BankNo) (fuel : Nat) : ∀ {t : State}, NoNewKeep s t → NoNewKeep s (t.grants b fuel) := by
  induction fuel with
  | zero => exact fun h => h
  | succ fuel ih =>
    intro t h
    unfold State.grants
    split
    · split
      · exact h
      · exact h.same (by simp)
      · split
        · exact h
        · split
          · exact h.same (by simp)
          · exact ih ((h.same (by simp)).lapsed _ _)
    · exact h

theorem grant (h : NoNewKeep s t) (b : BankNo) : NoNewKeep s (t.grant b) := (grants b 16 h).same (by simp [State.grant])

/-! ### Retention controller -/

theorem releaseAll (h : NoNewKeep s t) : NoNewKeep s t.releaseAll := by
  let others := Four.indices.filter fun n => (t.chan n).pauses.retention && decide ((t.chan n).pauses ≠ retentionPause)
  have h' : NoNewKeep s ((others.foldl (fun u n => u.removePause n retentionPause) t).forTogether t.heldByRetention
      fun n u => u.removePause n retentionPause) :=
    h.same (by simp [State.forTogether_groups, foldl_groups])
  exact h'.releaseFill.same (by simp [State.releaseAll, others])

theorem completeQuiesce (h : NoNewKeep s t) : NoNewKeep s t.completeQuiesce := by
  unfold State.completeQuiesce
  split
  · exact (NoNewKeep.releaseAll (h.same (u := t.setRetention .denied) rfl)).same (by simp)
  · exact h.same (by simp)

theorem completeWaking (h : NoNewKeep s t) : NoNewKeep s t.completeWaking :=
  (NoNewKeep.releaseAll (h.same (u := t.setRetention .normal) rfl)).same
    (by simp [State.completeWaking, apply_ite State.groups])

theorem retReqFalls (h : NoNewKeep s t) : NoNewKeep s t.retReqFalls := by
  have h' : NoNewKeep s { t with retention := { t.retention with req := false } } := h.same rfl
  unfold State.retReqFalls
  dsimp only
  split
  · exact (NoNewKeep.releaseAll (h'.same (State.setRetention_groups _ .normal))).same (by simp)
  · exact h.same rfl
  · exact h.same (by simp)
  all_goals exact h.same rfl

/-! ### Commands -/

theorem bankOffEffect (h : NoNewKeep s t) (b : BankNo) : NoNewKeep s (t.bankOffEffect b) :=
  (h.discardGroups (runGroups (b.val * 256) 256) [.lapsed]).same
    (by simp [State.bankOffEffect, apply_ite State.groups])

theorem softResetEffect (h : NoNewKeep s t) : NoNewKeep s t.softResetEffect := by
  have hclear : ∀ u : State, u.clearReports.groups = u.groups := fun _ => rfl
  exact h.resetFill.same (by simp [State.softResetEffect, hclear, foldl_groups])

/-- What a command's owner answers makes no group KEEP, when it takes the command. -/
def VerdictOk (s : State) (v : Verdict) : Prop := ∀ u, v = .ok u → NoNewKeep s u

theorem verdict_error (r : Reason) : VerdictOk s (.error r) := fun _ h => nomatch h

theorem verdict_ok (h : NoNewKeep s t) : VerdictOk s (.ok t) := fun _ he => Except.ok.inj he ▸ h

theorem bankOn (h : NoNewKeep s t) : VerdictOk s t.bankOn := by
  unfold State.bankOn
  split
  · exact verdict_error _
  · exact iteInduction (fun _ => verdict_error _) fun _ => iteInduction (fun _ => verdict_error _) fun _ =>
      iteInduction (fun _ => verdict_error _) fun _ => verdict_ok (h.same rfl)

theorem bankOff (h : NoNewKeep s t) : VerdictOk s t.bankOff := by
  unfold State.bankOff
  split
  · exact verdict_error _
  · exact iteInduction (fun _ => verdict_error _) fun _ => iteInduction (fun _ => verdict_error _) fun _ =>
      iteInduction (fun _ => verdict_error _) fun _ => verdict_ok (h.bankOffEffect _)

/-- FILL makes groups FILL_PENDING (R28). -/
theorem fillCommand (h : NoNewKeep s t) : VerdictOk s t.fillCommand :=
  iteInduction (fun _ => verdict_error _) fun _ => iteInduction (fun _ => verdict_error _) fun _ =>
    iteInduction (fun _ => verdict_error _) fun _ => iteInduction (fun _ => verdict_error _) fun _ =>
    iteInduction (fun _ => verdict_error _) fun _ => verdict_ok ((h.markGroups _ (st := .fillPending) (by decide)).same rfl)

/-- RELEASE makes groups DISCARD (R37). -/
theorem releaseCommand (h : NoNewKeep s t) : VerdictOk s t.releaseCommand :=
  iteInduction (fun _ => verdict_error _) fun _ => iteInduction (fun _ => verdict_error _) fun _ =>
    iteInduction (fun _ => verdict_error _) fun _ => verdict_ok ((h.discardGroups _ _).same (State.applySkips_groups _))

theorem queryCommand (h : NoNewKeep s t) : VerdictOk s t.queryCommand :=
  iteInduction (fun _ => verdict_error _) fun _ => verdict_ok (h.same rfl)

theorem logPopCommand (h : NoNewKeep s t) : VerdictOk s t.logPopCommand := by
  unfold State.logPopCommand
  split
  · exact verdict_error _
  · exact verdict_ok (h.same rfl)

theorem chStartCommand (h : NoNewKeep s t) (n : ChanNo) : VerdictOk s (t.chStartCommand n) := by
  have start : ∀ d, NoNewKeep s (t.startChan n d) := fun d => h.same (by simp [State.startChan])
  unfold State.chStartCommand
  split
  · exact verdict_error _
  · refine iteInduction (fun _ => verdict_error _) fun _ => ?_
    split
    · exact iteInduction (fun _ => verdict_error _) fun _ => verdict_ok (start _)
    · exact iteInduction (fun _ => verdict_error _) fun _ => verdict_ok (start _)
    all_goals exact verdict_error _

theorem chPauseCommand (h : NoNewKeep s t) (n : ChanNo) : VerdictOk s (t.chPauseCommand n) :=
  iteInduction (fun _ => verdict_ok (h.same (by simp))) fun _ => verdict_error _

theorem chResumeCommand (h : NoNewKeep s t) (n : ChanNo) : VerdictOk s (t.chResumeCommand n) :=
  iteInduction (fun _ => verdict_error _) fun _ => iteInduction (fun _ => verdict_ok (h.same (by simp))) fun _ => verdict_error _

theorem chAbortCommand (h : NoNewKeep s t) (n : ChanNo) : VerdictOk s (t.chAbortCommand n) :=
  iteInduction (fun _ => verdict_ok (h.same (by simp))) fun _ => verdict_error _

theorem softResetCommand (h : NoNewKeep s t) : VerdictOk s t.softResetCommand :=
  iteInduction (fun _ => verdict_error _) fun _ => verdict_ok h.softResetEffect

theorem runCommand (h : NoNewKeep s t) : VerdictOk s t.runCommand := by
  unfold State.runCommand
  dsimp only
  split
  · exact h.bankOn
  · exact h.bankOff
  · exact h.fillCommand
  · exact h.releaseCommand
  · exact h.queryCommand
  · exact h.logPopCommand
  · exact h.chStartCommand _
  · exact h.chPauseCommand _
  · exact h.chResumeCommand _
  · exact h.chAbortCommand _
  · exact verdict_ok (h.same (by simp))
  · exact h.softResetCommand
  · exact verdict_error _

theorem takeCommand (h : NoNewKeep s t) : NoNewKeep s t.takeCommand := by
  have hrun := NoNewKeep.runCommand (h.same (u := { t with cmdStatus := resetCmdStatus }) rfl)
  unfold State.takeCommand State.concludeCommand
  dsimp only
  split
  · exact h.same rfl
  · rename_i u hu
    exact (hrun u hu).same rfl

theorem issue (h : NoNewKeep s t) (w : Word) : NoNewKeep s (t.issue w) :=
  iteInduction (fun _ => NoNewKeep.takeCommand (h.same rfl)) fun _ => h.same rfl

/-! ### Completions -/

theorem onOp (h : NoNewKeep s t) (b : BankNo) (p : OpKind → Bool) {f : Op → State} (hf : ∀ o, NoNewKeep s (f o)) :
    NoNewKeep s (t.onOp b p f) := by
  unfold State.onOp
  split
  · split
    · exact hf _
    · exact h
  · exact h

theorem hostReadCompletes (h : NoNewKeep s t) (b : BankNo) : NoNewKeep s (t.hostReadCompletes b) :=
  h.onOp b _ fun o => h.completeHostRead b o

theorem hostWriteCompletes (h : NoNewKeep s t) (b : BankNo) : NoNewKeep s (t.hostWriteCompletes b) :=
  h.onOp b _ fun _ => h.same (by simp)

theorem mergeCompletes (h : NoNewKeep s t) (b : BankNo) : NoNewKeep s (t.mergeCompletes b) :=
  h.onOp b _ fun o => h.completeMerge b o

theorem scrubSegmentCompletes (h : NoNewKeep s t) (b : BankNo) : NoNewKeep s (t.scrubSegmentCompletes b) :=
  h.onOp b _ fun o => h.completeScrub b o

theorem fetchCompletes (h : NoNewKeep s t) (b : BankNo) : NoNewKeep s (t.fetchCompletes b) := by
  unfold State.fetchCompletes
  split
  · split
    · exact (h.completeFetch b _ _).same (State.decideBeat_groups _)
    · exact h
  · exact h

theorem channelReadCompletes (h : NoNewKeep s t) (b : BankNo) : NoNewKeep s (t.channelReadCompletes b) := by
  unfold State.channelReadCompletes
  split
  · split
    · exact (h.completeRead b _ _).same (State.decideBeat_groups _)
    · exact h
  · exact h

theorem channelWriteCompletes (h : NoNewKeep s t) (b : BankNo) : NoNewKeep s (t.channelWriteCompletes b) := by
  unfold State.channelWriteCompletes
  split
  · split
    · exact h.same (by simp)
    · exact h
  · exact h

theorem writebackCompletes (h : NoNewKeep s t) (b : BankNo) : NoNewKeep s (t.writebackCompletes b) := by
  unfold State.writebackCompletes
  split
  · split
    · exact h.same (by simp)
    · exact h
  · exact h

theorem refreshCompletes (h : NoNewKeep s t) (b : BankNo) : NoNewKeep s (t.refreshCompletes b) :=
  h.onOp b _ fun _ => h.same (by simp [apply_ite State.groups])

theorem closeCompletes (h : NoNewKeep s t) (b : BankNo) : NoNewKeep s (t.closeCompletes b) :=
  h.onOp b _ fun _ => h.same rfl

theorem wakeCompletes (h : NoNewKeep s t) (b : BankNo) : NoNewKeep s (t.wakeCompletes b) :=
  h.onOp b _ fun _ => h.same (by simp)

theorem entryCompletes (h : NoNewKeep s t) (b : BankNo) : NoNewKeep s (t.entryCompletes b) :=
  h.onOp b _ fun _ => h.same rfl

theorem powerDownCompletes (h : NoNewKeep s t) (b : BankNo) : NoNewKeep s (t.powerDownCompletes b) :=
  h.onOp b _ fun _ => h.same rfl

theorem exitCompletes (h : NoNewKeep s t) (b : BankNo) : NoNewKeep s (t.exitCompletes b) :=
  h.onOp b _ fun _ => h.same (by simp)

/-! ### Own steps -/

/-- No own step completes an operation. -/
theorem ownStep (h : NoNewKeep s t) (o : OwnStep) : NoNewKeep s (t.ownStep o) := by
  cases o with
  | fillEngineTakeUp => exact h.takeUp
  | bankGrant b => exact h.grant b
  | commandBarrierEnd => exact h.takeCommand
  | quiesceComplete => exact h.completeQuiesce
  | wakingComplete => exact h.completeWaking
  | wakeStart b => exact h.same (t.startClosed_groups b .wake 0#22)
  | _ => exact h.same (by simp [State.ownStep])

theorem ownIfDue (h : NoNewKeep s t) (o : OwnStep) : NoNewKeep s (t.ownIfDue o) :=
  iteInduction (fun _ => h.ownStep o) fun _ => h

theorem settleWith (fuel : Nat) : ∀ {t : State}, NoNewKeep s t → NoNewKeep s (t.settleWith fuel) := by
  induction fuel with
  | zero => exact fun h => h
  | succ fuel ih =>
    intro t h
    unfold State.settleWith
    split
    · exact h
    · exact ih (h.ownStep _)

theorem settled (h : NoNewKeep s t) : NoNewKeep s t.settled := settleWith 128 h

theorem happen (h : NoNewKeep s t) {f : State → State} (hf : ∀ u, NoNewKeep s u → NoNewKeep s (f u)) :
    NoNewKeep s (t.happen f) :=
  iteInduction (fun _ => h) fun _ => hf _ h.settled

theorem busCycle (h : NoNewKeep s t) {f : State → State} (hf : ∀ u, NoNewKeep s u → NoNewKeep s (f u)) :
    NoNewKeep s (t.busCycle f) :=
  h.happen fun u hu => iteInduction (fun _ => hf u hu) fun _ => hu

/-- A bus cycle that leaves the Row Group Table alone. -/
theorem busCycle_same (h : NoNewKeep s t) {f : State → State} (hf : ∀ u, (f u).groups = u.groups) :
    NoNewKeep s (t.busCycle f) :=
  h.busCycle fun u hu => hu.same (hf u)

/-! ### Every command -/

/-- Reset leaves every group DISCARD (R41). -/
theorem pinReset : NoNewKeep s t.pinReset :=
  ⟨fun _ => ⟨List.Pairwise.nil, by simp [State.pinReset, State.reset]⟩, fun _ _ hk => absurd hk GroupState.noConfusion⟩

theorem registerCycle (h : NoNewKeep s t) (reg : BitVec 6) (x : Word) : NoNewKeep s (t.registerCycle reg x) :=
  iteInduction (fun _ => h.issue x) fun _ => h.same (by simp)

theorem streamTake (h : NoNewKeep s t) (n : ChanNo) (sd : Word) (slast : Bool) :
    NoNewKeep s (t.happen fun u =>
      match u.stream.beat with
      | some x => if x.ch = n then u.take x sd slast else u
      | none => u) :=
  h.happen fun u hu => by
    split
    · exact hu.same (by simp [apply_ite State.groups])
    · exact hu

/-- A command other than FILL_SEGMENT_COMPLETE makes no group KEEP (R33). -/
theorem exec (c : Instr) (hc : ∀ b, c ≠ .fillSegmentComplete b) (h : NoNewKeep s t) (he : Machine.exec c t = .next u) :
    NoNewKeep s u := by
  cases c with
  | fillSegmentComplete b => exact absurd rfl (hc b)
  | pinReset => exact Host.Outcome.next.inj he ▸ NoNewKeep.pinReset
  | resetRelease => exact Host.Outcome.next.inj he ▸ h.same (by simp)
  | refreshTick => exact Host.Outcome.next.inj he ▸ h.happen fun _ hu => hu.refreshTick
  | pageHoldExpiry b => exact Host.Outcome.next.inj he ▸ h.happen fun _ hu => hu.same (by simp)
  | wakeStart b | bankGrant b | deferredSwitchOff b | retentionOrderStart b | channelPauseTakesEffect b | abortReport b
  | residualClear b | fillEngineTakeUp | readDrainEnd | heldWriteAccept | commandBarrierEnd | quiesceComplete
  | retentionSettled | wakingComplete => exact Host.Outcome.next.inj he ▸ h.ownIfDue _
  | hostReadComplete b => exact Host.Outcome.next.inj he ▸ h.happen fun _ hu => hu.hostReadCompletes b
  | hostWriteComplete b => exact Host.Outcome.next.inj he ▸ h.happen fun _ hu => hu.hostWriteCompletes b
  | mergeComplete b => exact Host.Outcome.next.inj he ▸ h.happen fun _ hu => hu.mergeCompletes b
  | scrubSegmentComplete b => exact Host.Outcome.next.inj he ▸ h.happen fun _ hu => hu.scrubSegmentCompletes b
  | descriptorFetchComplete b => exact Host.Outcome.next.inj he ▸ h.happen fun _ hu => hu.fetchCompletes b
  | channelReadComplete b => exact Host.Outcome.next.inj he ▸ h.happen fun _ hu => hu.channelReadCompletes b
  | channelWriteComplete b => exact Host.Outcome.next.inj he ▸ h.happen fun _ hu => hu.channelWriteCompletes b
  | writebackComplete b => exact Host.Outcome.next.inj he ▸ h.happen fun _ hu => hu.writebackCompletes b
  | refreshComplete b => exact Host.Outcome.next.inj he ▸ h.happen fun _ hu => hu.refreshCompletes b
  | closeComplete b => exact Host.Outcome.next.inj he ▸ h.happen fun _ hu => hu.closeCompletes b
  | wakeComplete b => exact Host.Outcome.next.inj he ▸ h.happen fun _ hu => hu.wakeCompletes b
  | selfRefreshEntryComplete b => exact Host.Outcome.next.inj he ▸ h.happen fun _ hu => hu.entryCompletes b
  | powerDownComplete b => exact Host.Outcome.next.inj he ▸ h.happen fun _ hu => hu.powerDownCompletes b
  | selfRefreshExitComplete b => exact Host.Outcome.next.inj he ▸ h.happen fun _ hu => hu.exitCompletes b
  | memoryRead addr => exact Host.Outcome.next.inj he ▸ h.busCycle_same fun u => by simp [apply_ite State.groups]
  | memoryWrite addr lanes data => exact Host.Outcome.next.inj he ▸ h.busCycle_same fun u => u.startWrite_groups addr lanes data
  | registerWrite reg data => exact Host.Outcome.next.inj he ▸ h.busCycle fun _ hu => hu.registerCycle reg data
  | fenceWrite n limit data => exact Host.Outcome.next.inj he ▸ h.busCycle_same fun u => u.writeFence_groups n limit data
  | doubleSelect | configWrite | config2Write | checkOverrideWrite | eventFlagsWrite | eventEnableWrite =>
    exact Host.Outcome.next.inj he ▸ h.busCycle_same fun _ => rfl
  | bankOn | bankOff | fill | release | query | logPop | chStart | chPause | chResume | chAbort | chReset | softReset
  | unknownCommand => exact Host.Outcome.next.inj he ▸ h.busCycle fun _ hu => hu.issue _
  | srqAssert n =>
    exact Host.Outcome.next.inj he ▸ iteInduction (fun _ => h.same rfl) fun _ => h.settled.same (by simp)
  | srqDeassert n =>
    exact Host.Outcome.next.inj he ▸ iteInduction (fun _ => h.same rfl) fun _ =>
      iteInduction (fun _ => h.settled) fun _ => h.settled.same rfl
  | streamTake n sd slast => exact Host.Outcome.next.inj he ▸ h.streamTake n sd slast
  | retReqRise =>
    exact Host.Outcome.next.inj he ▸ iteInduction (fun _ => h.same rfl) fun _ =>
      iteInduction (fun _ => h.settled) fun _ => h.settled.same (by simp)
  | retReqFall =>
    exact Host.Outcome.next.inj he ▸ iteInduction (fun _ => h.same rfl) fun _ =>
      iteInduction (fun _ => h.settled.retReqFalls) fun _ => h.settled

end NoNewKeep

/-- Settles O9: every other command keeps `NoNewKeep`. -/
theorem keepOnlyByFill : Obligations.KeepOnlyByFill := by
  intro c s t g hwf hexec hnot hkeep
  by_contra hc
  have h := (NoNewKeep.refl s).exec c (fun b hb => hc ⟨b, hb⟩) hexec
  exact hnot (h.keep hwf.2 g hkeep)

end Sys2Proof.Machine
end

section
-- One thread at a time: the stack of each thread counts against the memory limit of the check.
set_option Elab.async false
/-! SUPPORT. Proofs/GroupCommands.lean: reset, the commands FILL, RELEASE, QUERY and LOG_POP, and the cycles that wait on the bus. -/

namespace Sys2Proof.Machine

/-! ### Reset -/

theorem bankLaw_reset : BankLaw resetBank resetArbiter { balance := 0, cursor := 0#8 } where
  low := by decide
  high := by decide
  refreshing := by decide
  openRow h := absurd rfl h
  closed _ ho := absurd ho (by simp [resetBank])
  kinds := ⟨by simp [resetArbiter], fun _ _ hr => by simp [resetArbiter] at hr, by simp [resetArbiter], by simp [resetArbiter]⟩
  settle := by decide
  streak := by decide

theorem channelLaw_reset : ChannelLaw resetChannel := ⟨fun _ => rfl, fun _ => rfl, fun hf => absurd rfl hf⟩

/-- Settles O2. -/
theorem resetIsLawful : Obligations.ResetIsLawful := by
  refine ⟨⟨⟨.nil, by simp [State.reset]⟩, ⟨.nil, by simp [State.reset]⟩⟩, fun b => ?_,
    ⟨Nat.zero_le _, Nat.zero_le _, by simp [State.reset]⟩, fun n => ?_,
    by constructor <;> simp [State.reset, resetConfig, resetTiming]⟩
  · rw [bankOk_iff, show State.reset.bank b = resetBank from Four.get_all _ b,
      show State.reset.arb b = resetArbiter from Four.get_all _ b,
      show State.reset.account b = { balance := 0, cursor := 0#8 } from Four.get_all _ b]
    exact bankLaw_reset
  · rw [channelOk_iff, show State.reset.chan n = resetChannel from Four.get_all _ n]
    exact channelLaw_reset

/-! ### QUERY and LOG_POP -/

theorem State.runCommand_query {s : State} (h : commandCode s.command = 0x05#8) : s.runCommand = s.queryCommand := by
  rw [State.runCommand, h]
  rfl

theorem State.runCommand_logPop {s : State} (h : commandCode s.command = 0x06#8) : s.runCommand = s.logPopCommand := by
  rw [State.runCommand, h]
  rfl

/-- The part after the command `w` has been answered (R110). -/
def State.answered (s : State) (w : Word) : State := (s.commanded w).concludeCommand (s.commanded w).runCommand

/-- What a QUERY of a group leaves (R39, R110). -/
theorem State.answered_query {s : State} {w : Word} (hw : commandCode w = 0x05#8) (ha : s.arg.toNat ≤ 1023) :
    (s.answered w).cmdStatus = { outcome := .taken, reason := .none, code := 0x05#8
                                 resultState := (s.group s.arg.toNat).state, resultWeak := (s.group s.arg.toNat).weak } ∧
      (s.answered w).host = endedPort s.host (.ready none) ∧
      unchangedBut [.cmdStatus, .host] { s with command := w } (s.answered w) := by
  have hrun : (s.commanded w).runCommand = .ok { s.commanded w with cmdStatus := { (s.commanded w).cmdStatus with
      resultState := (s.group s.arg.toNat).state, resultWeak := (s.group s.arg.toNat).weak } } :=
    (State.runCommand_query hw).trans (if_neg (Nat.not_lt.2 ha))
  rw [State.answered, hrun]
  refine ⟨?_, rfl, fun p hp => ?_⟩
  · rw [← hw]
    rfl
  · cases p with
    | cmdStatus | host => simp at hp
    | _ => rfl

/-- What a refused command leaves, however it came to be answered (R110). -/
theorem State.answered_refused {s : State} {w : Word} {r : Reason} (hr : (s.commanded w).runCommand = .error r) :
    commandRefused s (s.answered w) w r := by
  rw [State.answered, hr]
  refine ⟨rfl, rfl, rfl, rfl, fun p hp => ?_⟩
  cases p with
  | command | cmdStatus | host | events => simp at hp
  | _ => rfl

/-- Settles O54. -/
theorem queryAndLogPop : Obligations.QueryAndLogPop := by
  intro s u hready
  have hquery : commandCode (commandWord u 0x05#8) = 0x05#8 := commandCode_commandWord u _
  have hpop : commandCode (s.commanded (commandWord u 0x06#8)).command = 0x06#8 := commandCode_commandWord u _
  refine ⟨fun ha => ?_, fun ha => ?_, fun r rest hl => ?_, fun hl => ?_⟩
  · obtain ⟨hstatus, hhost, hframe⟩ := State.answered_query (s := s) hquery ha
    refine ⟨_, next_issue _ hready, hframe .command (by simp), hstatus, hhost, fun p hp => ?_⟩
    refine Part.same_trans ?_ (hframe p (by simp at hp ⊢; tauto))
    cases p with
    | command => simp at hp
    | _ => rfl
  · exact refused_of_runCommand hready ((State.runCommand_query hquery).trans (if_pos ha))
  · have hrun : (s.commanded (commandWord u 0x06#8)).runCommand =
        .ok { s.commanded (commandWord u 0x06#8) with log := { s.log with records := rest } } := by
      rw [State.runCommand_logPop hpop, State.logPopCommand, show (s.commanded _).log = s.log from rfl, hl]
    obtain ⟨t, ht, htaken, hlast, hframe⟩ :=
      taken_of_runCommand hready hrun ((s.commanded _).withLog_frame { s.log with records := rest }) (by simp)
    exact ⟨t, ht, htaken, hlast .log (by simp), hframe⟩
  · refine refused_of_runCommand hready ?_
    rw [State.runCommand_logPop hpop, State.logPopCommand, show (s.commanded _).log = s.log from rfl, hl]

/-! ### The skipping rule comes to rest (R55) -/

theorem State.needsRefresh_congr {s t : State} (h : t.groups = s.groups) (g : Nat) : t.needsRefresh g = s.needsRefresh g := by
  rw [State.needsRefresh, State.group, h, State.needsRefresh, State.group]

theorem State.skips_groups (s : State) (b : BankNo) (fuel : Nat) : (s.skips b fuel).groups = s.groups :=
  s.skips_frame b fuel .groups (by simp)

/-- With skips enough the cursor rests on a group that needs refresh, or the balance is −4. -/
theorem State.skips_rest (b : BankNo) (fuel : Nat) : ∀ s : State, s.isReady b = true → s.refreshing b = false →
    -4 ≤ (s.account b).balance → (s.account b).balance ≤ fuel - 4 →
    s.needsRefresh ((s.skips b fuel).cursorGroup b) = true ∨ ((s.skips b fuel).account b).balance = -4 := by
  induction fuel with
  | zero =>
    intro s _ _ hl hh
    right
    simp only [State.skips]
    omega
  | succ fuel ih =>
    intro s hready href hl hh
    rw [State.skips]
    split
    · rename_i hdue
      have hlow : -4 < (s.account b).balance := by
        simp only [State.skipDue, Bool.and_eq_true, decide_eq_true_eq] at hdue
        exact hdue.1.1.2
      have hacc : ((s.settleOne b (-1)).account b).balance = (s.account b).balance - 1 := by
        rw [State.settleOne_account, if_pos rfl]
        rfl
      exact ih (s.settleOne b (-1)) hready href (by omega) (by push_cast at hh; omega)
    · rename_i hdue
      by_cases hneed : s.needsRefresh (s.cursorGroup b) = true
      · exact .inl hneed
      · right
        simp [State.skipDue, hready, href, hneed] at hdue
        omega

theorem State.applySkip_rest (s : State) (b : BankNo) (hready : s.isReady b = true) (href : s.refreshing b = false)
    (hl : -4 ≤ (s.account b).balance) :
    s.needsRefresh ((s.applySkip b).cursorGroup b) = true ∨ ((s.applySkip b).account b).balance = -4 :=
  State.skips_rest b _ s hready href hl (by omega)

/-- Only the Row Group Table, the bank and its account bear on the skipping rule there. -/
theorem State.skips_account_congr (b : BankNo) (fuel : Nat) : ∀ s t : State, t.groups = s.groups → t.bank b = s.bank b →
    t.account b = s.account b → (t.skips b fuel).account b = (s.skips b fuel).account b := by
  induction fuel with
  | zero => exact fun s t _ _ ha => ha
  | succ fuel ih =>
    intro s t hg hk ha
    have hdue : t.skipDue b = s.skipDue b := by
      simp only [State.skipDue, State.isReady, State.refreshing, State.cursorGroup, State.needsRefresh_congr hg, hk, ha]
    rw [State.skips, State.skips, hdue]
    split
    · refine ih _ _ hg hk ?_
      rw [State.settleOne_account, State.settleOne_account, ha]
    · exact ha

theorem State.applySkip_account_congr {s t : State} {b : BankNo} (hg : t.groups = s.groups) (hk : t.bank b = s.bank b)
    (ha : t.account b = s.account b) : (t.applySkip b).account b = (s.applySkip b).account b := by
  rw [State.applySkip, ha]
  exact State.skips_account_congr b _ s t hg hk ha

theorem State.foldl_applySkip_frame (l : List BankNo) : ∀ s : State,
    unchangedBut (l.map Part.account) s (l.foldl (fun t c => t.applySkip c) s) := by
  induction l with
  | nil => exact fun s => .refl _ s
  | cons c rest ih => exact fun s => ((s.applySkip_frame c).mono (by simp)).andThen (ih _) (by simp)

/-- The skipping rule at several banks is the rule at each. -/
theorem State.foldl_applySkip_account (b : BankNo) (l : List BankNo) : ∀ s : State, l.Nodup → b ∈ l →
    (l.foldl (fun t c => t.applySkip c) s).account b = (s.applySkip b).account b := by
  induction l with
  | nil => exact fun _ _ hb => absurd hb (by simp)
  | cons c rest ih =>
    intro s hnd hb
    obtain ⟨hc, hnd⟩ := List.nodup_cons.1 hnd
    have hstep := s.applySkip_frame c
    by_cases hbc : b = c
    · subst hbc
      exact State.foldl_applySkip_frame rest _ (.account b) (by simpa using hc)
    · refine (ih (s.applySkip c) hnd (by simpa [hbc] using hb)).trans ?_
      exact State.applySkip_account_congr (hstep .groups (by simp)) (hstep (.bank b) (by simp)) (hstep (.account b) (by simpa))

theorem State.applySkips_account (s : State) (b : BankNo) : s.applySkips.account b = (s.applySkip b).account b :=
  State.foldl_applySkip_account b Four.indices s (by decide) (Four.mem_indices b)

/-! ### FILL and RELEASE -/

/-- The groups of the run change their state and keep their weak counts (R26, R28). -/
theorem State.markGroups_group (st : GroupState) (g : Nat) (gs : List Nat) : ∀ s : State, s.tablesWf →
    (s.markGroups gs st).group g = if g ∈ gs then { s.group g with state := st } else s.group g := by
  induction gs with
  | nil => exact fun s _ => by simp [State.markGroups]
  | cons k rest ih =>
    intro s hwf
    have hcons : s.markGroups (k :: rest) st = (s.setGroupState k st).markGroups rest st := rfl
    rw [hcons, ih _ (s.setGroupState_wf k st hwf), s.setGroupState_group k g st hwf]
    by_cases hg : g = k
    · subst hg
      simp
    · simp [hg]

/-- FILL of a run that R27 allows is taken. -/
theorem State.fillCommand_ok {s : State} {first count : Nat} (hf : argFirst s.arg = first) (hc : argCount s.arg = count)
    (hrange : runInRange first count = true) (hs : s.inService = true)
    (hstate : ∀ g ∈ runGroups first count, (s.group g).state = .discard ∨ (s.group g).state = .lapsed)
    (huse : ∀ g ∈ runGroups first count, s.inUse (bankOfGroup g) = true) (hroom : s.fill.queue.length < 8) :
    s.fillCommand = .ok (s.fillEffect first count) := by
  have hall : (runGroups first count).all (fun g => [GroupState.discard, .lapsed].contains (s.group g).state) = true :=
    List.all_eq_true.2 fun g hg => by rcases hstate g hg with h | h <;> simp [h]
  have hbanks : (runBanks first count).all (fun b => s.inUse b) = true := by
    refine List.all_eq_true.2 fun b hb => ?_
    obtain ⟨g, hg, hgb⟩ := List.any_eq_true.1 (List.mem_filter.1 hb).2
    rw [← eq_of_beq hgb]
    exact huse g hg
  have hfull : ¬ Config.fillQueueDepth ≤ s.fill.queue.length := Nat.not_le.2 hroom
  simp only [State.fillCommand, hf, hc, hrange, hs, hall, hbanks, hfull]
  rfl

/-- RELEASE of a run that R37 allows is taken. -/
theorem State.releaseCommand_ok {s : State} {first count : Nat} (hf : argFirst s.arg = first) (hc : argCount s.arg = count)
    (hrange : runInRange first count = true) (hs : s.inService = true)
    (hstate : ∀ g ∈ runGroups first count, (s.group g).state ≠ .fillPending ∧ (s.group g).state ≠ .filling) :
    s.releaseCommand = .ok (s.releaseEffect first count) := by
  have hnone : (runGroups first count).any (fun g => [GroupState.fillPending, .filling].contains (s.group g).state) = false :=
    List.any_eq_false.2 fun g hg => by simp [hstate g hg]
  simp only [State.releaseCommand, hf, hc, hrange, hs, hnone]
  rfl

theorem State.fillEffect_frame (s : State) (first count : Nat) : unchangedBut [.groups, .fill] s (s.fillEffect first count) :=
  ((s.markGroups_frame _ _).mono (by simp)).andThen (State.withFill_frame _ _) (by simp)

theorem State.releaseEffect_frame (s : State) (first count : Nat) :
    unchangedBut (.groups :: allAccounts) s (s.releaseEffect first count) :=
  ((s.discardGroups_frame _ _).mono (by simp)).andThen (State.applySkips_frame _) (by simp)

/-- The KEEP and LAPSED groups of the run become DISCARD (R37). -/
theorem State.releaseEffect_group (s : State) (first count g : Nat) (h : s.tablesWf) :
    (s.releaseEffect first count).group g =
      if (first ≤ g ∧ g < first + count) ∧ ((s.group g).state = .keep ∨ (s.group g).state = .lapsed) then
        { state := .discard, weak := 0 } else s.group g := by
  have hg : (s.releaseEffect first count).group g = (s.discardGroups (runGroups first count) [.keep, .lapsed]).group g := by
    rw [State.group, State.releaseEffect, State.applySkips_groups, State.group]
  rw [hg, State.discardGroups_group _ g _ s h]
  simp [mem_runGroups, blankGroup]

/-- What RELEASE leaves of the account of bank `b`: the skipping rule's doing (R55). -/
theorem State.releaseEffect_account (s : State) (first count : Nat) (b : BankNo) :
    ((s.releaseEffect first count).needsRefresh (s.cursorGroup b) = true ∨ s.isReady b = false →
      (s.releaseEffect first count).account b = s.account b) ∧
    (s.isReady b = true → s.refreshing b = false → -4 ≤ (s.account b).balance →
      (s.releaseEffect first count).needsRefresh ((s.releaseEffect first count).cursorGroup b) = true ∨
        ((s.releaseEffect first count).account b).balance = -4) := by
  have hdis := s.discardGroups_frame (runGroups first count) [.keep, .lapsed]
  rw [State.releaseEffect]
  generalize s.discardGroups (runGroups first count) [.keep, .lapsed] = u at hdis
  have hbank : u.bank b = s.bank b := hdis (.bank b) (by simp)
  have hacc : u.account b = s.account b := hdis (.account b) (by simp)
  have hready : u.isReady b = s.isReady b := by rw [State.isReady, hbank, State.isReady]
  have href : u.refreshing b = s.refreshing b := by rw [State.refreshing, hbank, State.refreshing]
  have hcur : u.cursorGroup b = s.cursorGroup b := by rw [State.cursorGroup, hacc, State.cursorGroup]
  have hneed : ∀ g, u.applySkips.needsRefresh g = u.needsRefresh g := State.needsRefresh_congr u.applySkips_groups
  have hcur' : u.applySkips.cursorGroup b = (u.applySkip b).cursorGroup b := by
    rw [State.cursorGroup, u.applySkips_account b, State.cursorGroup]
  rw [hcur', u.applySkips_account b, ← hacc, ← hcur, ← hready, ← href, hneed]
  refine ⟨fun h => ?_, fun hr hf hl => ?_⟩
  · refine congrArg (State.account · b) (u.applySkip_of_not_due b ?_)
    rcases h with h | h
    · exact u.skipDue_of_needed b (.inr h)
    · simp [State.skipDue, h]
  · rw [hneed]
    exact u.applySkip_rest b hr hf hl

/-- Settles O53. -/
theorem fillAndRelease : Obligations.FillAndRelease := by
  intro s u first count hready hwf hs harg h1 h2
  have hf : argFirst s.arg = first := by rw [harg, argFirst_append count first (by omega)]
  have hc : argCount s.arg = count := by rw [harg, argCount_append count first (by omega)]
  have hrange : runInRange first count = true := hf ▸ hc ▸ runInRange_append harg h1 h2
  refine ⟨fun hstate huse hroom => ?_, fun hstate => ?_⟩
  · have hrun := (s.runCommand_fill u).trans (State.fillCommand_ok (s := s.commanded _) hf hc hrange hs
      (fun g hg => hstate g (mem_runGroups.1 hg)) (fun g hg => huse g (mem_runGroups.1 hg)) hroom)
    have heff := State.fillEffect_frame (s.commanded (commandWord u 0x03#8)) first count
    have hgroup : ∀ g, ((s.commanded (commandWord u 0x03#8)).fillEffect first count).group g =
        if g ∈ runGroups first count then { s.group g with state := .fillPending } else s.group g :=
      fun g => State.markGroups_group _ g _ (s.commanded _) hwf
    have hfill : ((s.commanded (commandWord u 0x03#8)).fillEffect first count).fill =
        { s.fill with queue := s.fill.queue ++ [{ first := first, count := count, next := first }] } := by
      have hmark : ((s.commanded (commandWord u 0x03#8)).markGroups (runGroups first count) .fillPending).fill = s.fill :=
        State.markGroups_frame _ _ _ .fill (by simp)
      rw [State.fillEffect, hmark]
    obtain ⟨t, ht, htaken, hlast, hframe⟩ := taken_of_runCommand hready hrun heff (by simp)
    refine ⟨t, ht, htaken, fun g hg => ?_, fun g hg => ?_, (hlast .fill (by simp)).trans hfill, hframe⟩
    · rw [group_of_frame hlast (by simp) g, hgroup, if_pos (mem_runGroups.2 hg)]
    · rw [group_of_frame hlast (by simp) g, hgroup, if_neg fun h => hg (mem_runGroups.1 h)]
  · have hrun := (s.runCommand_release u).trans (State.releaseCommand_ok (s := s.commanded _) hf hc hrange hs
      fun g hg => hstate g (mem_runGroups.1 hg))
    have heff := State.releaseEffect_frame (s.commanded (commandWord u 0x04#8)) first count
    have hgroup := fun g => State.releaseEffect_group (s.commanded (commandWord u 0x04#8)) first count g hwf
    have hacc := State.releaseEffect_account (s.commanded (commandWord u 0x04#8)) first count
    obtain ⟨t, ht, htaken, hlast, hframe⟩ := taken_of_runCommand hready hrun heff (by simp [allAccounts])
    have hneed := State.needsRefresh_congr (hlast .groups (by simp))
    have htacc : ∀ b, t.account b = _ := fun b => hlast (.account b) (by simp)
    refine ⟨t, ht, htaken, fun g hg hst => ?_, fun g hg => ?_, fun b h => ?_, fun b hr href hl => ?_, hframe.mono fun p hp => ?_⟩
    · rw [group_of_frame hlast (by simp) g, hgroup]
      exact if_pos ⟨hg, hst⟩
    · rw [group_of_frame hlast (by simp) g, hgroup]
      refine if_neg fun h => hg.elim (fun hn => hn h.1) fun hd => ?_
      have hd' : ((s.commanded (commandWord u 0x04#8)).group g).state = .discard := hd
      simp [hd'] at h
    · rw [htacc]
      exact (hacc b).1 (by rwa [hneed] at h)
    · rw [hneed, State.cursorGroup, htacc]
      exact (hacc b).2 hr href hl
    · simp at hp ⊢
      tauto

/-! ### Cycles that wait on the bus -/

/-- A read goes to the array at a READY bank (R101). -/
theorem State.readToArray_ready {s : State} {w : WordAddr} (h : s.isReady (bankOf w) = true) :
    (s.readToArray w).host = { s.host with cycle := .readArray w, busEnd := none } ∧
      (s.readToArray w).arb (bankOf w) = { s.arb (bankOf w) with host := some (readRequest w) } ∧
      unchangedBut [.host, .arb (bankOf w)] s (s.readToArray w) := by
  have he : s.readToArray w = (s.holdCycle (.readArray w)).setArb (bankOf w)
      { s.arb (bankOf w) with host := some (readRequest w) } := by
    simp only [State.readToArray, h, if_true]
  rw [he]
  refine ⟨rfl, ?_, ((s.withHost_frame _).mono (by simp)).andThen (State.setArb_frame _ _ _) (by simp)⟩
  rw [State.setArb_arb, if_pos rfl]

theorem State.windowOpen_iff (s : State) (w : WordAddr) : s.windowOpen w = true ↔ s.served w := by
  simp only [State.windowOpen, Bool.and_eq_true, and_assoc]

/-- A head that is placed already is not placed again (R104). -/
theorem State.placeHead_of_placed (s : State) (h : s.headPlaced = true) : s.placeHead = s := by
  rw [State.placeHead, State.placeHeads]
  split
  · rfl
  · rw [if_pos h]

/-- A write has joined the queue, with the armed check bits where `takes`, and its cycle has ended; no head is placed yet (R89, R102). -/
def State.withEntry (s : State) (w : WordAddr) (lanes : BitVec 4) (data : Word) (takes : Bool) : State :=
  ({ s with
    override := { s.override with armed := s.override.armed && !takes }
    host := { s.host with queue := s.host.queue ++
      [{ addr := w, lanes := lanes, data := data, mark := if takes then some s.override.check else none }] } } :
    State).endCycle (.ready none)

/-- A write that passes R99 becomes the last entry of the queue, and takes the armed check bits when it is a full word (R89, R102). -/
theorem State.acceptWrite_served {s : State} {w : WordAddr} {lanes : BitVec 4} {data : Word} (hs : s.served w)
    (hp : s.headPlaced = true) :
    (s.acceptWrite w lanes data).host =
        { queue := s.host.queue ++ [{ addr := w, lanes := lanes, data := data
                                      mark := if s.override.armed = true ∧ lanes = 15#4 then some s.override.check else none }]
          cycle := .idle, busEnd := some (.ready none) } ∧
      (s.acceptWrite w lanes data).override =
        (if s.override.armed = true ∧ lanes = 15#4 then { s.override with armed := false } else s.override) ∧
      unchangedBut [.host, .override] s (s.acceptWrite w lanes data) := by
  have he : s.acceptWrite w lanes data = s.withEntry w lanes data (s.override.armed && lanes == 15#4) := by
    rw [State.acceptWrite, if_pos ((s.windowOpen_iff w).2 hs)]
    exact State.placeHead_of_placed _ hp
  have htakes : (s.override.armed && lanes == 15#4) = decide (s.override.armed = true ∧ lanes = 15#4) := by
    rw [Bool.decide_and, Bool.decide_eq_true, beq_eq_decide]
  rw [he, htakes]
  refine ⟨by simp [State.withEntry, endedPort], ?_, fun p hp => ?_⟩
  · by_cases ht : s.override.armed = true ∧ lanes = 15#4 <;> simp [State.withEntry, ht]
  · cases p with
    | host | override => simp at hp
    | _ => rfl

/-- Settles O38. -/
theorem busWaitsEnd : Obligations.BusWaitsEnd := by
  refine ⟨fun s w hreset => ⟨fun hcycle hmatch => ?_, fun lanes data hcycle hroom => ?_⟩, fun s hreset hcycle hqueue => ?_,
    fun s c w hfree hqueue hc => ?_⟩
  · have hnone : (s.host.queue.any fun e => e.addr == w) = false :=
      List.any_eq_false.2 fun e he => by simpa using hmatch e he
    have hdue : s.ownDue .readDrainEnd = true := by simp [State.ownDue, hreset, State.drainEndDue, hcycle, hnone]
    have he : s.ownStep .readDrainEnd = s.readToArray w := by simp only [State.ownStep, State.drainEnd, hcycle]
    refine ⟨fun hr => ⟨_, next_ownIfDue hdue, ?_⟩, fun hr => ⟨_, next_ownIfDue hdue, ?_⟩⟩ <;> rw [he]
    · exact State.readToArray_ready hr
    · simp only [State.readToArray, hr, Bool.false_eq_true, if_false]
      exact ⟨rfl, s.endCycle_frame _⟩
  · have hdue : s.ownDue .heldWriteAccept = true := by
      simp [State.ownDue, hreset, State.heldWriteDue, hcycle, Config.hostQueueDepth, hroom]
    have he : s.ownStep .heldWriteAccept = s.acceptWrite w lanes data := by simp only [State.ownStep, State.heldWrite, hcycle]
    refine ⟨fun hn => ⟨_, next_ownIfDue hdue, ?_⟩, fun hs hp => ⟨_, next_ownIfDue hdue, ?_⟩⟩ <;> rw [he]
    · rw [State.acceptWrite, if_neg fun h => hn ((s.windowOpen_iff w).1 h)]
      exact ⟨rfl, s.endCycle_frame _⟩
    · exact State.acceptWrite_served hs hp
  · have hdue : s.ownDue .commandBarrierEnd = true := by simp [State.ownDue, hreset, State.barrierDue, hcycle, hqueue]
    have he : s.ownStep .commandBarrierEnd = s.answered s.command := rfl
    refine ⟨fun hcode harg => ⟨_, next_ownIfDue hdue, ?_⟩, fun hcode => ⟨_, next_ownIfDue hdue, ?_⟩⟩ <;> rw [he]
    · exact State.answered_query hcode harg
    · exact State.answered_refused ((s.commanded s.command).runCommand_unknown hcode)
  · have hissue : (Host.Outcome.next (s.busCycle fun t => t.issue w) : Host.Outcome State Fault Refusal) =
        .next { s with command := w, host := { s.host with cycle := .barrier, busEnd := none } } := by
      rw [next_busCycle hfree, State.issue, if_neg (by simpa using hqueue)]
      rfl
    cases c <;> cases hc <;> exact hissue

end Sys2Proof.Machine
end

section
-- One thread at a time: the stack of each thread counts against the memory limit of the check.
set_option Elab.async false
/-! SUPPORT. Proofs/FillSegments.lean: the fill engine takes a group up, its request is granted, and its segments complete. -/

namespace Sys2Proof.Machine

/-! ### The fill engine's request (R31) -/

/-- The request for segment `seg` of group `g`. -/
def fillRequest (g seg : Nat) : Request := { kind := .fillSegment, addr := fillSegmentBase g seg, words := 64 }

/-- An arbiter with the fill engine's request `r`. -/
def withFillRequest (a : Arbiter) (r : Request) : Arbiter := { a with fill := some r }

section
variable {s : State} {g seg : Nat}

theorem State.placeFill_ready (h : s.isReady (bankOfGroup g) = true) :
    s.placeFill g seg = s.setArb (bankOfGroup g) (withFillRequest (s.arb (bankOfGroup g)) (fillRequest g seg)) := by
  simp only [State.placeFill, h, if_true]
  rfl

theorem State.placeFill_arb (h : s.isReady (bankOfGroup g) = true) (c : BankNo) : (s.placeFill g seg).arb c =
    if c = bankOfGroup g then withFillRequest (s.arb c) (fillRequest g seg) else s.arb c := by
  rw [State.placeFill_ready h, State.setArb_arb]
  split
  · rename_i hc
    rw [hc]
  · rfl

theorem State.placeFill_frame (h : s.isReady (bankOfGroup g) = true) :
    unchangedBut [.arb (bankOfGroup g)] s (s.placeFill g seg) := by
  rw [State.placeFill_ready h]
  exact s.setArb_frame _ _

end

section
variable {s : State} {e : FillEntry} {rest : List FillEntry}

theorem State.fillingGroup_head (hq : s.fill.queue = e :: rest) (hg : (s.group e.next).state = .filling) :
    s.fillingGroup = some e.next := by
  simp only [State.fillingGroup, hq, hg, if_true]

/-- The engine, not held, requests the current segment of the FILLING group (R33, R34, R35). -/
theorem State.requestSegment_filling (hq : s.fill.queue = e :: rest) (hg : (s.group e.next).state = .filling)
    (hheld : s.fill.held = false) : s.requestSegment = s.placeFill e.next s.fill.segment := by
  simp only [State.requestSegment, State.fillingGroup_head hq hg, hheld, Bool.false_eq_true, if_false]

theorem State.requestSegment_held (hheld : s.fill.held = true) : s.requestSegment = s := by
  unfold State.requestSegment
  split
  · rw [if_pos hheld]
  · rfl

/-! ### The engine takes a group up (R30) -/

/-- The fill unit at segment 0 of a group just taken up. -/
def takenUp (f : FillUnit) : FillUnit := { f with segment := 0, restart := false }

theorem State.takeUpDue_iff (hq : s.fill.queue = e :: rest) : s.takeUpDue = true ↔
    s.fill.held = false ∧ s.fill.ending = false ∧ s.fillInFlight = false ∧ (s.group e.next).state = .fillPending ∧
      s.isReady (bankOfGroup e.next) = true := by
  simp [State.takeUpDue, hq, and_assoc]

theorem fillSegmentBase_zero (g : Nat) : fillSegmentBase g 0 = groupBase g := by simp [fillSegmentBase, groupBase]

/-- The group taken up is FILLING, its weak count kept, and its segment 0 is requested (R30, R31). -/
theorem State.takeUp_rule (hq : s.fill.queue = e :: rest) (hwf : s.tablesWf) (hr : s.isReady (bankOfGroup e.next) = true) :
    s.takeUp.group e.next = { s.group e.next with state := .filling } ∧
      (∀ g, g ≠ e.next → s.takeUp.group g = s.group g) ∧ s.takeUp.fill = takenUp s.fill ∧
      s.takeUp.arb (bankOfGroup e.next) = withFillRequest (s.arb (bankOfGroup e.next)) (fillRequest e.next 0) ∧
      unchangedBut [.groups, .fill, .arb (bankOfGroup e.next)] s s.takeUp := by
  let u : State := { s.setGroupState e.next .filling with fill := takenUp s.fill }
  have he : s.takeUp = u.placeFill e.next 0 := by
    simp only [State.takeUp, hq]
    rfl
  have hgroup : ∀ g, (u.placeFill e.next 0).group g = if g = e.next then { s.group e.next with state := .filling } else s.group g :=
    fun g => by
      rw [State.group, State.placeFill_groups]
      exact s.setGroupState_group e.next g .filling hwf
  have hplace := State.placeFill_frame (s := u) (seg := 0) hr
  rw [he]
  refine ⟨(hgroup _).trans (if_pos rfl), fun g hg => (hgroup g).trans (if_neg hg), hplace .fill (by simp), ?_, ?_⟩
  · exact (State.placeFill_arb (s := u) hr _).trans (if_pos rfl)
  · exact (((s.setGroupState_frame _ _).mono (by simp)).andThen (State.withFill_frame _ (takenUp s.fill)) (by simp)).andThen
      hplace (by simp)

end

/-- Settles O37. -/
theorem fillEngineTakesUp : Obligations.FillEngineTakesUp := by
  intro s e rest hreset hwf hheld hending hflight hq hstate hready
  have hdue : s.ownDue .fillEngineTakeUp = true := by
    simp [State.ownDue, hreset, (State.takeUpDue_iff hq).2 ⟨hheld, hending, hflight, hstate, hready⟩]
  obtain ⟨hgroup, hothers, hfill, harb, hframe⟩ := State.takeUp_rule hq hwf hready
  refine ⟨_, next_ownIfDue hdue, hgroup, hothers, hfill, ?_, hframe⟩
  rw [← fillSegmentBase_zero]
  exact harb

/-! ### A request of the NORMAL class that stands alone is granted (R64, R66, R67, R71) -/

theorem requesterAt_ne_host (p : Fin 6) : requesterAt p ≠ .host := by
  revert p
  decide

section
variable {s : State} {b : BankNo} {r : Requester} {p : Fin 6} {q : Request}

/-- Of the NORMAL positions that of `r` alone is pending, and a page hit if `q` is one. -/
theorem State.normal_lone (hp : ∀ x, requesterAt x = r ↔ x = p) (h : s.solePending b r q) (hlow : (s.account b).balance ≤ 4) :
    (∀ x, s.normalPending b x = true ↔ x = p) ∧ ∀ x, s.normalHit b x = true ↔ x = p ∧ s.isHit b q = true := by
  have hq : s.pendingAt b r = some q := h.1
  have hr : r ≠ .refresh := by
    rintro rfl
    exact absurd hq (by simp [State.pendingAt])
  have hat : requesterAt p = r := (hp p).2 rfl
  have hother : ∀ x, x ≠ p → s.pendingAt b (requesterAt x) = none := fun x hx =>
    State.solePending_none h fun hxr => hx ((hp x).1 hxr)
  refine ⟨fun x => ?_, fun x => ?_⟩
  · by_cases hx : x = p
    · subst hx
      unfold State.normalPending
      split
      · rename_i href
        exact absurd (hat.symm.trans href) hr
      · simp [hat, hq]
    · unfold State.normalPending
      split
      · simpa [hx] using (State.refreshRequest_low hlow).2
      · simp [hother x hx, hx]
  · by_cases hx : x = p
    · subst hx
      simp [State.normalHit, hat, hq]
    · simp [State.normalHit, hother x hx, hx]

theorem mem_normalPositions (p : Fin 6) : p ∈ normalPositions := by
  revert p
  decide

theorem State.normalWinner_of_lone (hp : ∀ x, requesterAt x = r ↔ x = p) (h : s.solePending b r q)
    (hlow : (s.account b).balance ≤ 4) : s.normalWinner b = some (p, s.pickedFor b q) := by
  obtain ⟨hpend, hhit⟩ := State.normal_lone hp h hlow
  unfold State.normalWinner State.pickedFor
  cases hq : s.isHit b q with
  | true =>
    have hyes : s.normalHit b p = true := (hhit p).2 ⟨rfl, hq⟩
    have hcap : s.capped b = false := by
      simp only [State.capped, Bool.and_eq_false_imp]
      refine fun _ => List.any_eq_false.2 fun x _ => ?_
      by_cases hx : s.normalPending b x = true
      · simp [(hpend x).1 hx, hyes]
      · simp [hx]
    rw [if_pos ⟨hcap, List.any_eq_true.2 ⟨p, mem_normalPositions p, hyes⟩⟩,
      find?_searchAfter _ hyes fun y hy => ((hhit y).1 hy).1]
    rfl
  | false =>
    have hno : ∀ x, s.normalHit b x = false := fun x =>
      Bool.eq_false_iff.2 fun hx => absurd ((hhit x).1 hx).2 (by simp [hq])
    rw [if_neg (by simp [hno]), find?_searchAfter _ ((hpend p).2 rfl) fun y hy => (hpend y).1 hy]
    rfl

/-- The operation of the NORMAL request `q` of `r` has begun at bank `b`, the requester not told yet. -/
def State.normalBegun (s : State) (b : BankNo) (r : Requester) (q : Request) : State :=
  ((s.takeRequest b r).countGrant b r (s.pickedFor b q) (s.isHit b q)).startColumn b q.kind q.addr q.words (s.grantPayload q)

theorem State.normalBegun_frame : unchangedBut [.bank b, .arb b] s (s.normalBegun b r q) :=
  (((s.takeRequest_frame b r).andThen (State.countGrant_frame _ b _ _ _) (by simp)).mono (by simp)).andThen
    (State.setBank_frame _ b _) (by simp)

theorem State.takeRequest_arb : (s.takeRequest b r).arb b = withoutRequest r (s.arb b) := by
  cases r with
  | refresh => rfl
  | _ => exact (State.setArb_arb s b b _).trans (if_pos rfl)

theorem State.normalBegun_arb : (s.normalBegun b r q).arb b = s.afterNormal b r (positionOf r) q := by
  have hhit : s.isHit b q = decide ((s.bank b).openRow = some (rowOf q.addr)) := by rw [State.isHit, beq_eq_decide]
  have hstreak : (withoutRequest r (s.arb b)).streak = (s.arb b).streak := by cases r <;> rfl
  have hpos : (withoutRequest r (s.arb b)).hitPos = (s.arb b).hitPos ∧ (withoutRequest r (s.arb b)).rotPos = (s.arb b).rotPos := by
    cases r <;> exact ⟨rfl, rfl⟩
  by_cases h : (s.bank b).openRow = some (rowOf q.addr) <;>
    simp [State.normalBegun, State.startColumn, State.countGrant, State.pickedFor, hhit, h, State.setArb_arb,
      State.takeRequest_arb, State.afterNormal, State.streakAfter, Config.streakCap, hstreak, ← hpos.1, ← hpos.2]

theorem State.normalBegun_bank : (s.normalBegun b r q).bank b = { s.bank b with
    op := some ((s.takeRequest b r).countGrant b r (s.pickedFor b q) (s.isHit b q) |>.newOp b q.kind q.addr q.words
      (s.grantPayload q))
    openRow := some (rowOf q.addr), holdTimer := none } := by
  have hbank : ((s.takeRequest b r).countGrant b r (s.pickedFor b q) (s.isHit b q)).bank b = s.bank b :=
    ((s.takeRequest_frame b r).andThen (State.countGrant_frame _ b _ _ _) (by simp)) (.bank b) (by simp)
  rw [State.normalBegun, State.startColumn, State.setBank_bank, if_pos rfl, hbank]

theorem State.normalBegun_begun : begun s (s.normalBegun b r q) b q (s.grantPayload q) := by
  have hu := (s.takeRequest_frame b r).andThen (State.countGrant_frame _ b r (s.pickedFor b q) (s.isHit b q)) (by simp)
  have hconfig := hu .config (by simp)
  have htiming := hu .timing (by simp)
  exact ⟨_, State.normalBegun_bank, rfl, rfl, rfl, rfl, congrArg ConfigReg.cwb hconfig, htiming, rfl, rfl⟩

/-- A lone NORMAL request whose target passes is granted at once, and nothing else is decided. -/
theorem State.grants_normal (hp : ∀ x, requesterAt x = r ↔ x = p) (hd : s.decides b) (hlow : (s.account b).balance ≤ 4)
    (h : s.solePending b r q) (hcheck : s.isReady b = true → s.grantCheck b r q = true) :
    s.ownDue (.bankGrant b) = true ∧ s.grants b 16 = (s.normalBegun b r q).granted r q := by
  obtain ⟨hreset, hfree, hoff, horder, hread, hmet⟩ := hd
  have hat : requesterAt p = r := (hp p).2 rfl
  have hq : s.pendingAt b r = some q := h.1
  have hhost : (s.arb b).host = none := State.solePending_none h (r' := .host) fun hr => requesterAt_ne_host p (hat.trans hr.symm)
  have hwin : s.winner b = some (r, s.pickedFor b q) := by
    rw [s.winner_of_not_met b hmet, State.orderWinner, if_neg (State.refreshRequest_low hlow).1, hhost,
      State.normalWinner_of_lone hp h hlow]
    simp [hat]
  have hdue : s.grantDue b = true := by simp [State.grantDue, hfree, hoff, horder, hread, hwin]
  refine ⟨by simp [State.ownDue, hreset, hdue], ?_⟩
  rw [State.grants, if_pos hdue, hwin]
  cases r with
  | refresh => exact absurd hq (by simp [State.pendingAt])
  | _ =>
    simp only [hq, hcheck (State.ready_of_grantDue hdue), if_true, s.parted_of_not_met b hmet]
    rfl

end

theorem requesterAt_fill_iff (x : Fin 6) : requesterAt x = .fill ↔ x = 4 := by
  revert x
  decide

/-- The words of a fill segment are zeros with the code of zero (R31). -/
theorem encodeWord_zero : encodeWord 0#32 = { data := 0#32, check := 0#7 } := by decide

/-- BANK_GRANT of a lone FILL request (R31, R32). -/
theorem grant_fill {s : State} {b : BankNo} {q : Request} (hd : s.decides b) (hlow : (s.account b).balance ≤ 4)
    (h : s.solePending b .fill q) (hg : (s.group (groupOf q.addr)).state = .filling) :
    ∃ t, exec (.bankGrant b) s = .next t ∧ begun s t b q (s.grantPayload q) ∧ t.fill = { s.fill with restart := false } ∧
      t.arb b = s.afterNormal b .fill 4 q ∧ unchangedBut [.bank b, .arb b, .fill] s t := by
  obtain ⟨hdue, hgrants⟩ := State.grants_normal requesterAt_fill_iff hd hlow h fun hr => by simp [State.grantCheck, hg, hr]
  have hbegun : begun s (s.normalBegun b .fill q) b q (s.grantPayload q) := State.normalBegun_begun
  have hframe : unchangedBut [.bank b, .arb b] s (s.normalBegun b .fill q) := State.normalBegun_frame
  have harb : (s.normalBegun b .fill q).arb b = s.afterNormal b .fill 4 q := State.normalBegun_arb
  generalize s.normalBegun b .fill q = u at hgrants hbegun hframe harb
  let t : State := { u with fill := { u.fill with restart := false } }
  have ht : unchangedBut [.bank b, .arb b, .fill] s t := (hframe.mono (by simp)).andThen (u.withFill_frame _) (by simp)
  have hmeet : s.meet t = t := by
    obtain ⟨o, ho, -⟩ := hbegun
    refine s.meet_of_none t fun c => ?_
    by_cases hc : c = b
    · subst hc
      have hop : (t.bank c).op = some o := congrArg Bank.op ho
      simp [State.meetsAt, State.isFree, hop]
    · exact State.meetsAt_congr (ht (.arb c) (by simp [hc])) (ht (.bank c) (by simp [hc])) (ht (.account c) (by simp))
  refine ⟨_, next_ownIfDue hdue, ?_⟩
  rw [show s.ownStep (.bankGrant b) = s.meet (s.grants b 16) from rfl, hgrants, show u.granted .fill q = t from rfl, hmeet]
  refine ⟨hbegun, ?_, harb, ht⟩
  rw [← show u.fill = s.fill from hframe .fill (by simp)]

/-! ### A fill segment completes (R33, R34, R35, R40) -/

/-- The words of the fill segment `o` are zeros, no other word has changed, and bank `b` has finished its column operation (R12, R31). -/
def zeroedBy (s t : State) (b : BankNo) (o : Op) : Prop :=
  (∀ w ∈ burstAddrs o.addr 64, t.word w = { data := 0#32, check := 0#7 }) ∧
    (∀ w, w ∉ burstAddrs o.addr 64 → t.word w = s.word w) ∧ t.bank b = afterColumn s.config.hold (s.bank b)

section
variable {s : State} {b : BankNo} {o : Op} {e : FillEntry} {rest : List FillEntry}

theorem zeroedBy_of_frame {t : State} {ps : List Part} (hf : unchangedBut ps (s.wordsStored b o) t) (ha : .array ∉ ps)
    (hb : .bank b ∉ ps) (hwf : s.tablesWf) (hp : o.payload = List.replicate 64 (encodeWord 0#32)) : zeroedBy s t b o := by
  have hword : ∀ w, t.word w = (s.setWords o.addr o.payload).word w := fun w => by
    rw [State.word, hf .array ha, s.wordsStored_array b o, State.word]
  have hlen : o.payload.length = 64 := by rw [hp, List.length_replicate]
  refine ⟨fun w hw => ?_, fun w hw => ?_, (hf (.bank b) hb).trans (s.wordsStored_bank b o)⟩
  · obtain ⟨k, hk, rfl⟩ := List.mem_map.1 hw
    have hk' : k < o.payload.length := by
      rw [hlen]
      exact List.mem_range.1 hk
    rw [hword, s.setWords_word o.addr o.payload k hwf hk' (by omega)]
    simp only [hp, List.getElem_replicate, encodeWord_zero]
  · rw [hword]
    exact s.setWords_word_of_not_mem o.addr w o.payload hwf (by rwa [hlen])

/-- What the fill unit does when the segment `o` has stored its words, by the state of the head entry. -/
theorem State.completeFill_eq (hq : s.fill.queue = e :: rest) : s.completeFill b o =
    if s.fill.ending then
      ({ (s.wordsStored b o).setGroup e.next blankGroup with
        fill := { s.fill with queue := rest, ending := false, segment := 0, restart := false } } : State).applySkip b
    else if s.fill.restart then ({ s.wordsStored b o with fill := takenUp s.fill } : State).requestSegment
    else if s.fill.segment < 63 then
      ({ s.wordsStored b o with fill := { s.fill with segment := s.fill.segment + 1 } } : State).requestSegment
    else (s.wordsStored b o).groupFilled e rest := by
  have hfill : ((s.setWords o.addr o.payload).finishColumn b).fill = s.fill := s.wordsStored_frame b o .fill (by simp)
  have htail : s.fill.queue.tail = rest := by rw [hq]; rfl
  simp only [State.completeFill, State.dropFillHead, State.setGroup_fill, hfill, htail]
  split
  · rename_i hnil
    exact absurd (hq.symm.trans hnil) (by simp)
  · rename_i e' rest' hcons
    obtain ⟨rfl, rfl⟩ := List.cons.inj (hq.symm.trans hcons)
    rfl

theorem next_fillSegment (hrest : s.atRest) (ho : (s.bank b).op = some o) (hk : o.kind = .fillSegment) :
    exec (.fillSegmentComplete b) s = .next (s.completeFill b o) := by
  have he : s.fillSegmentCompletes b = s.completeFill b o := State.onOp_of_op ho (by simp [hk])
  rw [← he]
  exact next_happen hrest

/-- The segment that the fill unit `x` names is asked for, the engine not held. -/
theorem State.fillAsks {x : FillUnit} (hx : x.queue = e :: rest) (hheld : x.held = false)
    (hg : (s.group e.next).state = .filling) (hr : s.isReady (bankOfGroup e.next) = true) :
    let t := ({ s.wordsStored b o with fill := x } : State).requestSegment
    (t.arb (bankOfGroup e.next)).fill = some (fillRequest e.next x.segment) ∧
      (∀ c, { t.arb c with fill := none } = { s.columnDone b c with fill := none }) ∧ t.fill = x ∧
      unchangedBut (.fill :: allArbs) (s.wordsStored b o) t := by
  let u : State := { s.wordsStored b o with fill := x }
  have hgroup : (u.group e.next).state = .filling := by
    rw [show u.group e.next = s.group e.next from group_of_frame (s.wordsStored_frame b o) (by simp) e.next]
    exact hg
  have hready : u.isReady (bankOfGroup e.next) = true := (s.wordsStored_isReady b o _).trans hr
  have he : u.requestSegment = u.placeFill e.next x.segment := State.requestSegment_filling (s := u) hx hgroup hheld
  have hplace := State.placeFill_frame (seg := x.segment) hready
  have harb : ∀ c, (u.placeFill e.next x.segment).arb c =
      if c = bankOfGroup e.next then withFillRequest (s.columnDone b c) (fillRequest e.next x.segment) else s.columnDone b c :=
    fun c => by
      rw [State.placeFill_arb hready, show u.arb c = s.columnDone b c from s.wordsStored_arb b o c]
  dsimp only
  rw [show ({ s.wordsStored b o with fill := x } : State).requestSegment = u.placeFill e.next x.segment from he]
  refine ⟨?_, fun c => ?_, hplace .fill (by simp), ?_⟩
  · rw [harb, if_pos rfl]
    rfl
  · rw [harb]
    split <;> rfl
  · exact ((State.withFill_frame _ x).mono (by simp)).andThen hplace (by simp)

/-- A group whose last segment is written is KEEP, and the entry moves on or leaves (R33). -/
theorem State.groupFilled_rule (s : State) (e : FillEntry) (rest : List FillEntry) :
    (s.groupFilled e rest).groups = (s.setGroup e.next { state := .keep, weak := 0 }).groups ∧
      (s.groupFilled e rest).fill = { s.fill with
        segment := 0
        queue := if e.next + 1 < e.first + e.count then { e with next := e.next + 1 } :: rest else rest } ∧
      (s.groupFilled e rest).events =
        (if e.first + e.count ≤ e.next + 1 ∧ rest = [] then withEvent s.events .fillDone else s.events) ∧
      unchangedBut [.groups, .fill, .events] s (s.groupFilled e rest) := by
  have hframe : ∀ x, unchangedBut [.groups, .fill, .events] s
      { s.setGroup e.next { state := .keep, weak := 0 } with fill := x } := fun x =>
    ((s.setGroup_frame _ _).mono (by simp)).andThen (State.withFill_frame _ x) (by simp)
  by_cases hlast : e.next + 1 < e.first + e.count
  · have he : s.groupFilled e rest = { s.setGroup e.next { state := .keep, weak := 0 } with
        fill := { s.fill with queue := { e with next := e.next + 1 } :: rest, segment := 0 } } := if_pos hlast
    rw [he, if_pos hlast, if_neg fun h => by omega]
    exact ⟨rfl, rfl, rfl, hframe _⟩
  · have hdone : e.first + e.count ≤ e.next + 1 := by omega
    let u : State := { s.setGroup e.next { state := .keep, weak := 0 } with
      fill := { s.fill with queue := rest, segment := 0 } }
    have he : s.groupFilled e rest = if rest.isEmpty then u.raise .fillDone else u := if_neg hlast
    rw [he, if_neg hlast]
    cases rest with
    | nil => exact ⟨rfl, rfl, (if_pos ⟨hdone, rfl⟩).symm, (hframe _).andThen (State.raise_frame _ _) (by simp)⟩
    | cons x l => exact ⟨rfl, rfl, (if_neg (by simp)).symm, hframe _⟩

theorem State.wordsStored_wf (hwf : s.tablesWf) : (s.wordsStored b o).tablesWf :=
  (((Keeps.refl s).setWords o.addr o.payload).finishColumn b).tables hwf

/-- A group of the part with the words stored reads as in the table with the one entry written. -/
theorem State.group_of_setGroup {t : State} {k : Nat} {x : Group} (hwf : s.tablesWf)
    (ht : t.groups = ((s.wordsStored b o).setGroup k x).groups) (g : Nat) :
    t.group g = if g = k then x else s.group g := by
  rw [State.group, ht, ← show (s.wordsStored b o).group g = s.group g from group_of_frame (s.wordsStored_frame b o) (by simp) g]
  exact State.setGroup_group _ k g x (State.wordsStored_wf hwf)

/-- The last segment of a group of an ending entry (R40). -/
theorem State.completeFill_ending (hq : s.fill.queue = e :: rest) (hend : s.fill.ending = true) :
    (s.completeFill b o).groups = ((s.wordsStored b o).setGroup e.next blankGroup).groups ∧
      (s.completeFill b o).fill = { s.fill with queue := rest, ending := false, segment := 0, restart := false } ∧
      ((s.completeFill b o).needsRefresh (s.cursorGroup b) = true → (s.completeFill b o).account b = s.account b) ∧
      unchangedBut [.groups, .fill, .account b] (s.wordsStored b o) (s.completeFill b o) := by
  let u : State := { (s.wordsStored b o).setGroup e.next blankGroup with
    fill := { s.fill with queue := rest, ending := false, segment := 0, restart := false } }
  have he : s.completeFill b o = u.applySkip b := by rw [State.completeFill_eq hq, if_pos hend]
  have hu : unchangedBut [.groups, .fill] (s.wordsStored b o) u :=
    ((State.setGroup_frame _ _ _).mono (by simp)).andThen (State.withFill_frame _ _) (by simp)
  have hskip := u.applySkip_frame b
  have hacc : u.account b = s.account b := s.wordsStored_frame b o (.account b) (by simp)
  rw [he]
  refine ⟨hskip .groups (by simp), hskip .fill (by simp), fun hneed => ?_, (hu.mono (by simp)).andThen hskip (by simp)⟩
  rw [u.applySkip_of_not_due b (u.skipDue_of_needed b (.inr ?_)), hacc]
  rw [State.cursorGroup, hacc, ← State.cursorGroup, ← State.needsRefresh_congr (u.applySkip_groups b)]
  exact hneed

end

/-- Settles O24: the grant, then the completion in its five cases. -/
theorem fillSegmentsMakeAGroupKept : Obligations.FillSegmentsMakeAGroupKept := by
  refine ⟨fun s b q hd hlow hsole hk hg => ?_, fun s b o e rest hrest hwf ho hk hp hq => ⟨fun hend hre hseg hheld hg hr => ?_,
    fun hend hre hseg hheld => ?_, fun hend hre hheld hg hr => ?_, fun hend hre hseg => ?_, fun hend => ?_⟩⟩
  · obtain ⟨t, ht, hbegun, hfill, harb, hframe⟩ := grant_fill hd hlow hsole hg
    have hpay : s.grantPayload q = List.replicate q.words { data := 0#32, check := 0#7 } := by
      simp only [State.grantPayload, hk, encodeWord_zero]
    exact ⟨t, ht, hpay ▸ hbegun, hfill, harb, hframe⟩
  all_goals
    have hstored : unchangedBut [.array, .bank b, .arb b] s (s.wordsStored b o) := s.wordsStored_frame b o
    have hnext := next_fillSegment hrest ho hk
  · rw [State.completeFill_eq hq, hend, hre, if_neg (by simp), if_neg (by simp), if_pos hseg] at hnext
    obtain ⟨hreq, harbs, hfill, hframe⟩ := State.fillAsks (b := b) (o := o) (x := { s.fill with segment := s.fill.segment + 1 })
      hq hheld hg hr
    exact ⟨_, hnext, zeroedBy_of_frame hframe (by simp [allArbs]) (by simp [allArbs]) hwf hp, ⟨hreq, harbs⟩, hfill,
      (hstored.mono (by simp)).andThen hframe (by simp +contextual [List.subset_def])⟩
  · rw [State.completeFill_eq hq, hend, hre, if_neg (by simp), if_neg (by simp), if_pos hseg,
      State.requestSegment_held (by exact hheld)] at hnext
    have hframe := (s.wordsStored b o).withFill_frame { s.fill with segment := s.fill.segment + 1 }
    exact ⟨_, hnext, zeroedBy_of_frame hframe (by simp) (by simp) hwf hp, s.wordsStored_arb b o b, rfl,
      (hstored.mono (by simp)).andThen hframe (by simp)⟩
  · rw [State.completeFill_eq hq, hend, hre, if_neg (by simp), if_pos rfl] at hnext
    obtain ⟨hreq, harbs, hfill, hframe⟩ := State.fillAsks (b := b) (o := o) (x := takenUp s.fill) hq hheld hg hr
    exact ⟨_, hnext, zeroedBy_of_frame hframe (by simp [allArbs]) (by simp [allArbs]) hwf hp, ⟨hreq, harbs⟩, hfill,
      (hstored.mono (by simp)).andThen hframe (by simp +contextual [List.subset_def])⟩
  · rw [State.completeFill_eq hq, hend, hre, if_neg (by simp), if_neg (by simp), if_neg (by omega)] at hnext
    obtain ⟨hgroups, hfill, hevents, hframe⟩ := (s.wordsStored b o).groupFilled_rule e rest
    have hgroup := State.group_of_setGroup hwf hgroups
    rw [hstored .fill (by simp)] at hfill
    rw [hstored .events (by simp)] at hevents
    exact ⟨_, hnext, zeroedBy_of_frame hframe (by simp) (by simp) hwf hp, (hgroup _).trans (if_pos rfl),
      fun g hne => (hgroup g).trans (if_neg hne), hfill, hevents, (hframe (.arb b) (by simp)).trans (s.wordsStored_arb b o b),
      (hstored.mono (by simp)).andThen hframe (by simp)⟩
  · obtain ⟨hgroups, hfill, hacc, hframe⟩ := State.completeFill_ending (b := b) (o := o) hq hend
    have hgroup := State.group_of_setGroup hwf hgroups
    exact ⟨_, hnext, zeroedBy_of_frame hframe (by simp) (by simp) hwf hp, (hgroup _).trans (if_pos rfl),
      fun g hne => (hgroup g).trans (if_neg hne), hfill, hacc, (hframe (.arb b) (by simp)).trans (s.wordsStored_arb b o b),
      (hstored.mono (by simp)).andThen hframe (by simp)⟩

end Sys2Proof.Machine
end

section
-- One thread at a time: the stack of each thread counts against the memory limit of the check.
set_option Elab.async false
/-! SUPPORT. Proofs/Waking.lean: the end of WAKING, where what retention held is released. -/

namespace Sys2Proof.Machine

/-! ### RETENTION leaves a pause-reason set (R135, R166) -/

/-- The channel without the reason RETENTION. -/
def withoutRetention (c : Channel) : Channel := { c with pauses := { c.pauses with retention := false } }

/-- A further reason holds the channel. -/
abbrev heldOtherwise (c : Channel) : Prop := c.pauses.host = true ∨ c.pauses.unowned = true

theorem Pauses.without_retention (p : Pauses) : p.without retentionPause = { p with retention := false } := by
  simp [Pauses.without, retentionPause]

theorem pauses_eq_retentionPause_iff (c : Channel) :
    c.pauses = retentionPause ↔ c.pauses.retention = true ∧ ¬ heldOtherwise c := by
  rw [heldOtherwise]
  obtain ⟨host, retention, unowned⟩ := c.pauses
  simp only [retentionPause, Pauses.mk.injEq]
  cases host <;> cases unowned <;> simp

theorem not_runs_of_heldOtherwise {c : Channel} (h : heldOtherwise c) : runs c = false := by
  have hany : c.pauses.any = true := by
    rcases h with h | h <;> simp [Pauses.any, h]
  simp [runs, hany]

section
variable {s t : State} {n : ChanNo}

/-- A channel with a further reason loses RETENTION alone (R135). -/
theorem State.removePause_of_heldOtherwise (h : heldOtherwise (s.chan n)) :
    s.removePause n retentionPause = s.setChan n (withoutRetention (s.chan n)) := by
  have hrest : ((s.chan n).pauses.without retentionPause).any = true := by
    rw [Pauses.without_retention]
    rcases h with h | h <;> simp [Pauses.any, h]
  have he : s.removePause n retentionPause =
      s.setChan n { s.chan n with pauses := (s.chan n).pauses.without retentionPause } :=
    if_neg fun ⟨_, hempty, _⟩ => by simp [hrest] at hempty
  rw [he, Pauses.without_retention]
  rfl

/-- RETENTION leaves the channels of `l`, each of which a further reason holds. -/
theorem State.removeRetention_rule (l : List ChanNo) (s : State) (h : ∀ m ∈ l, heldOtherwise (s.chan m)) :
    let t := l.foldl (fun u m => u.removePause m retentionPause) s
    (∀ m, t.chan m = if m ∈ l then withoutRetention (s.chan m) else s.chan m) ∧ unchangedBut allChans s t := by
  induction l generalizing s with
  | nil => exact ⟨fun m => by simp, .refl _ _⟩
  | cons x rest ih =>
    have hx : s.removePause x retentionPause = s.setChan x (withoutRetention (s.chan x)) :=
      State.removePause_of_heldOtherwise (h x (by simp))
    have hchan : ∀ m, (s.removePause x retentionPause).chan m = if m = x then withoutRetention (s.chan m) else s.chan m := fun m => by
      rw [hx, State.setChan_chan]
      split
      · rename_i hm
        rw [hm]
      · rfl
    obtain ⟨hall, hframe⟩ := ih (s.removePause x retentionPause) fun m hm => by
      have hs : heldOtherwise (s.chan m) := h m (by simp [hm])
      rw [hchan]
      split <;> exact hs
    refine ⟨fun m => ?_, ?_⟩
    · rw [List.foldl_cons, hall, hchan]
      by_cases hmx : m = x <;> by_cases hm : m ∈ rest <;> simp [hmx, hm, withoutRetention]
    · rw [List.foldl_cons]
      refine unchangedBut.trans ?_ hframe
      rw [hx]
      exact (s.setChan_frame x _).mono (by simp)

/-- With no operation in flight the channel has none of any sort. -/
theorem State.chanOp_none (h : s.chanOp n (fun _ => true) = false) (p : Op → Bool) : s.chanOp n p = false := by
  simp only [State.chanOp, State.anyOp, List.any_eq_false, Option.any_eq_true, not_exists, not_and, Bool.and_true, Bool.and_eq_true]
    at h ⊢
  exact fun b hb o ho hn => absurd hn (h b hb o ho)

/-- Without its last reason a PAUSED channel goes to ACTIVE, or to LOADING when no descriptor is installed (R135). -/
theorem State.removePause_last (hp : (s.chan n).pauses = retentionPause) (hst : (s.chan n).state = .paused)
    (hab : (s.chan n).aborting = false) : s.removePause n retentionPause =
      if (s.chan n).work.isSome then (s.setChan n { s.chan n with state := .active, pauses := noPauses }).consider n
      else (s.setChan n { s.chan n with pauses := noPauses }).enterLoading n := by
  have hrest : retentionPause.without retentionPause = noPauses := rfl
  have htwice : ∀ c d : Channel, (s.setChan n c).setChan n d = s.setChan n d := fun c d => by simp [State.setChan, Four.set_set]
  have hlast : retentionPause.any = true ∧ noPauses.any = false := ⟨rfl, rfl⟩
  simp only [State.removePause, hrest, hp, hst, hab, hlast, and_self, if_true, htwice, State.setChan_chan]

/-- A channel that asks for its next request, nothing of it being outstanding (R121). -/
theorem State.consider_atRest {w : Work} (hw : (s.chan n).work = some w) (hruns : runs (s.chan n) = true)
    (hnone : ∀ c, (s.arb c).ch.get n = none) (hop : s.chanOp n (fun _ => true) = false)
    (hready : (requestAtRest n (s.chan n) w).all (fun q => s.isReady (bankOf q.addr)) = true) :
    unchangedBut allArbs s (s.consider n) ∧ ∀ b, (s.consider n).arb b =
      match requestAtRest n (s.chan n) w with
      | some q => withRequest n q b (s.arb b)
      | none => s.arb b := by
  have hnext : s.nextRequest n w = requestAtRest n (s.chan n) w :=
    State.nextRequest_atRest w (State.chanOp_none hop _) (State.chanOp_none hop _)
  cases hq : requestAtRest n (s.chan n) w with
  | none =>
    rw [s.consider_of_no_request n w hw (hnext.trans hq)]
    exact ⟨.refl _ _, fun _ => rfl⟩
  | some q =>
    rw [hq] at hready
    exact s.consider_places n w q hw hruns hnone (hnext.trans hq) hready

/-- The PAUSED channel that RETENTION alone holds goes on (R135). -/
theorem State.removePause_wentOn (h : s.mayGoOn n) (hp : (s.chan n).pauses = retentionPause) :
    wentOn s (s.removePause n retentionPause) n ∧ unchangedBut (.chan n :: allArbs) s (s.removePause n retentionPause) := by
  obtain ⟨hst, hab, hres, hended, hnone, hop, -, hfetch, hdata⟩ := h
  rw [State.removePause_last hp hst hab, wentOn]
  cases hw : (s.chan n).work with
  | none =>
    let u := s.setChan n { s.chan n with pauses := noPauses }
    have hu : u.chan n = { s.chan n with pauses := noPauses } := (s.setChan_chan n n _).trans (if_pos rfl)
    obtain ⟨hchan, harb, hframe⟩ := u.enterLoading_ready n (by rw [hu]; exact hres) (by rw [hu]; exact hfetch hw)
    rw [hu] at hchan harb
    exact ⟨⟨hchan, harb⟩, ((s.setChan_frame n _).mono (by simp)).andThen hframe (by simp)⟩
  | some w =>
    let u := s.setChan n { s.chan n with state := .active, pauses := noPauses }
    have hu : u.chan n = { s.chan n with state := .active, pauses := noPauses } := (s.setChan_chan n n _).trans (if_pos rfl)
    have hask : requestAtRest n (u.chan n) w = requestAtRest n (s.chan n) w := by
      rw [hu]
      rfl
    obtain ⟨hframe, harb⟩ := State.consider_atRest (s := u) (n := n) (w := w) (by rw [hu]; exact hw)
      (by simp [runs, hu, hab, hended, hw, noPauses, Pauses.any]) hnone hop (hask ▸ (hdata w hw).1)
    rw [hask] at harb
    exact ⟨⟨(hframe (.chan n) (by simp [allArbs])).trans hu, harb⟩,
      ((s.setChan_frame n _).mono (by simp)).andThen hframe (by simp)⟩

end

/-! ### RETENTION leaves every channel (R166) -/

/-- The channels that RETENTION holds beside a further reason. -/
def State.retainedOtherwise (s : State) : List ChanNo :=
  Four.indices.filter fun n => (s.chan n).pauses.retention && decide ((s.chan n).pauses ≠ retentionPause)

/-- RETENTION has left those channels. -/
def State.othersReleased (s : State) : State :=
  s.retainedOtherwise.foldl (fun u n => u.removePause n retentionPause) s

/-- RETENTION has left every channel. -/
def State.chansReleased (s : State) : State :=
  s.othersReleased.forTogether s.heldByRetention fun n u => u.removePause n retentionPause

theorem State.releaseAll_eq (s : State) : s.releaseAll = s.chansReleased.releaseFill.releaseScrub.decideBeat := rfl

section
variable {s t : State} {n : ChanNo}

theorem State.mem_retainedOtherwise (m : ChanNo) :
    m ∈ s.retainedOtherwise ↔ (s.chan m).pauses.retention = true ∧ heldOtherwise (s.chan m) := by
  simp only [State.retainedOtherwise, List.mem_filter, Four.mem_indices, true_and, Bool.and_eq_true, decide_eq_true_eq, ne_eq,
    pauses_eq_retentionPause_iff]
  by_cases ho : heldOtherwise (s.chan m) <;> simp [ho]

theorem State.chansReleased_of_none (h : s.noneRetained) : s.chansReleased = s := by
  have hothers : s.retainedOtherwise = [] := by simp [State.retainedOtherwise, h]
  have hheld : s.heldByRetention = [] := by simp [State.heldByRetention, pauses_eq_retentionPause_iff, h]
  rw [State.chansReleased, hheld, State.forTogether_nil, State.othersReleased, hothers, List.foldl_nil]

theorem withoutRetention_of_not_held {c : Channel} (h : c.pauses.retention = false) : withoutRetention c = c := by
  rw [withoutRetention, ← h]

/-- A channel that RETENTION does not hold alone either stays as it is or does not run. -/
theorem withoutRetention_calm {c : Channel} (h : c.pauses.retention = true → heldOtherwise c) :
    withoutRetention c = c ∨ runs (withoutRetention c) = false := by
  cases hr : c.pauses.retention with
  | false => exact .inl (withoutRetention_of_not_held hr)
  | true => exact .inr (not_runs_of_heldOtherwise (h hr))

theorem State.othersReleased_rule (s : State) :
    (∀ m, s.othersReleased.chan m =
      if (s.chan m).pauses = retentionPause then s.chan m else withoutRetention (s.chan m)) ∧
      unchangedBut allChans s s.othersReleased := by
  obtain ⟨hchan, hframe⟩ := State.removeRetention_rule s.retainedOtherwise s fun m hm => ((s.mem_retainedOtherwise m).1 hm).2
  refine ⟨fun m => (hchan m).trans ?_, hframe⟩
  simp only [State.mem_retainedOtherwise, pauses_eq_retentionPause_iff]
  cases hr : (s.chan m).pauses.retention with
  | false => simp [withoutRetention_of_not_held hr]
  | true => by_cases ho : heldOtherwise (s.chan m) <;> simp [ho]

/-- A quiet stream port stays quiet when every channel stays or is not eligible (R156). -/
theorem portQuiet_of_chans (h : s.portQuiet) (hs : t.stream = s.stream)
    (hc : ∀ m, t.chan m = s.chan m ∨ t.stream.beat ≠ none ∨ t.eligible m = false) : t.portQuiet := by
  by_cases hb : t.stream.beat = none
  · refine h.imp (fun hs' => absurd (hs ▸ hb) hs') fun he m => ?_
    rcases hc m with hm | hm | hm
    · rw [State.eligible_congr hm hs, he m]
    · exact absurd hb hm
    · exact hm
  · exact .inl hb

/-- A channel that has gone on makes no beat begin (R155). -/
theorem State.eligible_of_wentOn (h : s.mayGoOn n) (hw : wentOn s t n) (hs : t.stream = s.stream) :
    t.stream.beat ≠ none ∨ t.eligible n = false := by
  obtain ⟨-, -, -, -, -, -, -, -, hdata⟩ := h
  unfold wentOn at hw
  cases hwork : (s.chan n).work with
  | none =>
    rw [hwork] at hw
    exact .inr (t.eligible_of_not_runs n (by simp [hw.1, runs]))
  | some w =>
    rw [hwork] at hw
    have htw : (t.chan n).work = some w := by rw [hw.1, hwork]
    rcases (hdata w hwork).2 with hb | hsrq | hop
    · exact .inl (hs ▸ hb)
    · exact .inr (by simp [State.eligible, hs, hsrq])
    · exact .inr (t.eligible_of_no_stream n w htw hop)

theorem State.mayGoOn_of_chans (h : s.mayGoOn n) (hf : unchangedBut allChans s t) (hn : t.chan n = s.chan n)
    (hq : t.portQuiet) : t.mayGoOn n := by
  obtain ⟨hst, hab, hres, hended, hnone, hop, -, hfetch, hdata⟩ := h
  have hbank : ∀ b, t.bank b = s.bank b := fun b => hf (.bank b) (by simp [allChans])
  have hready : ∀ b, t.isReady b = s.isReady b := fun b => by rw [State.isReady, hbank, State.isReady]
  have hstream : t.stream = s.stream := hf .stream (by simp [allChans])
  refine ⟨hn ▸ hst, hn ▸ hab, hn ▸ hres, hn ▸ hended, fun c => ?_, ?_, hq, ?_, ?_⟩
  · rw [hf (.arb c) (by simp [allChans])]
    exact hnone c
  · simpa only [State.chanOp, State.anyOp, hbank] using hop
  · rwa [hn, hready]
  · simpa only [hn, hready, hstream] using hdata

theorem wentOn_of_chans {u : State} (h : wentOn u t n) (hn : u.chan n = s.chan n) (ha : ∀ b, u.arb b = s.arb b) : wentOn s t n := by
  simpa only [wentOn, hn, ha] using h

/-- At each bank the channel that went on has placed one request at most. -/
theorem withRequest_of_wentOn (h : wentOn s t n) (b : BankNo) :
    t.arb b = s.arb b ∨ ∃ q, t.arb b = withRequest n q b (s.arb b) := by
  unfold wentOn at h
  split at h
  · exact .inr ⟨_, h.2 b⟩
  · obtain ⟨-, harb⟩ := h
    have hb := harb b
    split at hb
    · exact .inr ⟨_, hb⟩
    · exact .inl hb

/-- RETENTION has left every channel, and none but `n` may have gone on (R166). -/
def chansLifted (s t : State) (n : ChanNo) : Prop :=
  retentionLifted s t n ∧ t.portQuiet ∧ (∀ b, t.arb b = s.arb b ∨ ∃ q, t.arb b = withRequest n q b (s.arb b)) ∧
    unchangedBut (allChans ++ allArbs) s t

theorem State.portQuiet_of_mayGoOn (h : s.mayGoOn n) : s.portQuiet := by
  obtain ⟨-, -, -, -, -, -, hquiet, -⟩ := h
  exact hquiet

/-- RETENTION alone holds channel `n`, or no channel. -/
theorem State.held_alone_iff (h : s.mayBeLifted n) (m : ChanNo) :
    (s.chan m).pauses = retentionPause ↔ m = n ∧ ¬ heldOtherwise (s.chan n) := by
  obtain ⟨-, hn, hothers⟩ := h
  rw [pauses_eq_retentionPause_iff]
  refine ⟨fun ⟨hm, ho⟩ => ?_, fun ⟨hm, ho⟩ => hm ▸ ⟨hn, ho⟩⟩
  by_cases hmn : m = n
  · exact ⟨hmn, hmn ▸ ho⟩
  · exact absurd (hothers m hmn hm) ho

/-- Each other channel has lost RETENTION, and is as it was or does not run. -/
theorem State.othersReleased_other (h : s.mayBeLifted n) {m : ChanNo} (hm : m ≠ n) :
    s.othersReleased.chan m = withoutRetention (s.chan m) ∧
      (s.othersReleased.chan m = s.chan m ∨ runs (s.othersReleased.chan m) = false) := by
  have hchan : s.othersReleased.chan m = withoutRetention (s.chan m) :=
    (s.othersReleased_rule.1 m).trans (if_neg fun hp => hm ((State.held_alone_iff h m).1 hp).1)
  refine ⟨hchan, ?_⟩
  rw [hchan]
  exact withoutRetention_calm (h.2.2 m hm)

/-- A further reason holds channel `n`: every channel stays in its state. -/
theorem State.chansReleased_heldOtherwise (h : s.mayBeLifted n) (ho : heldOtherwise (s.chan n)) :
    chansLifted s s.chansReleased n := by
  obtain ⟨hchan, hframe⟩ := s.othersReleased_rule
  have hnil : s.heldByRetention = [] := by simp [State.heldByRetention, State.held_alone_iff h, ho]
  have he : s.chansReleased = s.othersReleased := by rw [State.chansReleased, hnil, State.forTogether_nil]
  have harb : ∀ b, s.othersReleased.arb b = s.arb b := fun b => hframe (.arb b) (by simp [allChans])
  have hself : s.othersReleased.chan n = withoutRetention (s.chan n) :=
    (hchan n).trans (if_neg fun hp => ((State.held_alone_iff h n).1 hp).2 ho)
  have hquiet : s.othersReleased.portQuiet :=
    portQuiet_of_chans (State.portQuiet_of_mayGoOn h.1) (hframe .stream (by simp [allChans])) fun m => by
      by_cases hm : m = n
      · exact .inr (.inr (State.eligible_of_not_runs _ m (by rw [hm, hself]; exact not_runs_of_heldOtherwise ho)))
      · exact (State.othersReleased_other h hm).2.imp id fun hr => .inr (State.eligible_of_not_runs _ m hr)
  rw [he]
  refine ⟨⟨fun m hm => (State.othersReleased_other h hm).1, ?_⟩, hquiet, fun b => .inl (harb b), hframe.mono (by simp)⟩
  rw [if_pos ho]
  exact ⟨hself, harb⟩

/-- RETENTION alone holds channel `n`: it goes on. -/
theorem State.chansReleased_alone (h : s.mayBeLifted n) (ho : ¬ heldOtherwise (s.chan n)) : chansLifted s s.chansReleased n := by
  obtain ⟨hchan, hframe⟩ := s.othersReleased_rule
  have hone : s.heldByRetention = [n] := by
    simp only [State.heldByRetention, State.held_alone_iff h, ho, not_false_eq_true, and_true]
    clear * -
    revert n
    decide
  have he : s.chansReleased = s.othersReleased.removePause n retentionPause := by
    rw [State.chansReleased, hone, State.forTogether_single]
  have hpause : (s.chan n).pauses = retentionPause := (State.held_alone_iff h n).2 ⟨rfl, ho⟩
  have hself : s.othersReleased.chan n = s.chan n := (hchan n).trans (if_pos hpause)
  have hstream : s.othersReleased.stream = s.stream := hframe .stream (by simp [allChans])
  have hquiet : s.othersReleased.portQuiet := portQuiet_of_chans (State.portQuiet_of_mayGoOn h.1) hstream fun m => by
    by_cases hm : m = n
    · exact .inl (hm ▸ hself)
    · exact (State.othersReleased_other h hm).2.imp id fun hr => .inr (State.eligible_of_not_runs _ m hr)
  obtain ⟨hwent, hon⟩ := State.removePause_wentOn (State.mayGoOn_of_chans h.1 hframe hself hquiet) (hself ▸ hpause)
  rw [← he] at hwent hon
  have hwent : wentOn s s.chansReleased n := wentOn_of_chans hwent hself fun b => hframe (.arb b) (by simp [allChans])
  have hstay : ∀ m, m ≠ n → s.chansReleased.chan m = s.othersReleased.chan m := fun m hm => hon (.chan m) (by simp [hm, allArbs])
  have hstream' : s.chansReleased.stream = s.stream := (hon .stream (by simp [allArbs])).trans hstream
  refine ⟨⟨fun m hm => (hstay m hm).trans (State.othersReleased_other h hm).1, ?_⟩,
    portQuiet_of_chans (State.portQuiet_of_mayGoOn h.1) hstream' fun m => ?_,
    withRequest_of_wentOn hwent, (hframe.mono (by simp)).andThen hon (by simp +contextual [List.subset_def])⟩
  · rw [if_neg ho]
    exact hwent
  · by_cases hm : m = n
    · exact .inr (hm ▸ State.eligible_of_wentOn h.1 hwent hstream')
    · rw [hstay m hm]
      refine (State.othersReleased_other h hm).2.imp id fun hr => .inr (State.eligible_of_not_runs _ m ?_)
      rwa [hstay m hm]

theorem State.chansReleased_lifted (h : s.mayBeLifted n) : chansLifted s s.chansReleased n := by
  by_cases ho : heldOtherwise (s.chan n)
  · exact State.chansReleased_heldOtherwise h ho
  · exact State.chansReleased_alone h ho

end

/-! ### The fill engine and the scrubber are released (R35, R95) -/

/-- The fill unit, released. -/
def released (f : FillUnit) : FillUnit := { f with held := false }

/-- The fill engine is no longer held, and has not acted yet. -/
def State.fillFreed (s : State) : State := { s with fill := released s.fill }

section
variable {s : State} {e : FillEntry} {rest : List FillEntry}

theorem State.releaseFill_eq (hheld : s.fill.held = true) (hflight : s.fillInFlight = false) :
    s.releaseFill = if s.fillFreed.takeUpDue then s.fillFreed.takeUp else s.fillFreed.requestSegment :=
  if_pos ⟨hheld, hflight⟩

/-- With an empty queue the release asks for nothing. -/
theorem State.releaseFill_empty (hq : s.fill.queue = []) : s.releaseFill = s.fillFreed := by
  have hfq : s.fillFreed.fill.queue = [] := hq
  have hdue : s.fillFreed.takeUpDue = false := by simp [State.takeUpDue, hfq]
  have hask : s.fillFreed.requestSegment = s.fillFreed := by simp only [State.requestSegment, State.fillingGroup, hfq]
  by_cases h : s.fill.held = true ∧ s.fillInFlight = false
  · rw [State.releaseFill_eq h.1 h.2, hdue, if_neg (by simp), hask]
  · exact if_neg h

/-- With a FILLING group its current segment is requested. -/
theorem State.releaseFill_filling (hq : s.fill.queue = e :: rest) (hheld : s.fill.held = true) (hflight : s.fillInFlight = false)
    (hg : (s.group e.next).state = .filling) : s.releaseFill = s.fillFreed.placeFill e.next s.fill.segment := by
  have hdue : s.fillFreed.takeUpDue ≠ true := fun h => by
    obtain ⟨-, -, -, hpending, -⟩ := (State.takeUpDue_iff (s := s.fillFreed) hq).1 h
    exact absurd (hg.symm.trans hpending) (by simp)
  rw [State.releaseFill_eq hheld hflight, if_neg hdue]
  exact State.requestSegment_filling (s := s.fillFreed) hq hg rfl

/-- A FILL_PENDING group of the head entry, in a READY bank, is taken up. -/
theorem State.releaseFill_pending (hq : s.fill.queue = e :: rest) (hheld : s.fill.held = true) (hend : s.fill.ending = false)
    (hflight : s.fillInFlight = false) (hg : (s.group e.next).state = .fillPending) (hr : s.isReady (bankOfGroup e.next) = true) :
    s.releaseFill = s.fillFreed.takeUp := by
  have hdue : s.fillFreed.takeUpDue = true := (State.takeUpDue_iff (s := s.fillFreed) hq).2 ⟨rfl, hend, hflight, hg, hr⟩
  rw [State.releaseFill_eq hheld hflight, if_pos hdue]

end

/-- The scrubber, released with no credit. -/
def scrubReleased (c : Scrubber) : Scrubber := { c with state := if c.state = .held then .idle else c.state }

theorem State.releaseScrub_of_no_credit {s : State} (hc : s.scrub.credits = 0) (hf : s.scrubInFlight = false) :
    s.releaseScrub = { s with scrub := scrubReleased s.scrub } := by
  by_cases hh : s.scrub.state = .held
  · have he : s.releaseScrub = (s.setScrub .idle).searchScrub := by simp [State.releaseScrub, hh, hf]
    rw [he, State.searchScrub_of_no_credit (s.setScrub .idle) hc, scrubReleased, if_pos hh]
    rfl
  · rw [scrubReleased, if_neg hh]
    exact if_neg hh

/-! ### WAKING ends (R173) -/

/-- The scrubber is released too, and RET_EXIT is raised. -/
def State.backInService (v : State) : State := ({ v with scrub := scrubReleased v.scrub } : State).raise .retExit

theorem State.backInService_frame (v : State) : unchangedBut [.scrub, .events] v v.backInService :=
  ((v.withScrub_frame _).mono (by simp)).andThen (State.raise_frame _ _) (by simp)

theorem State.backInService_events (v : State) : v.backInService.events = withEvent v.events .retExit := rfl

theorem State.backInService_scrub (v : State) : v.backInService.scrub = scrubReleased v.scrub := rfl

/-- The orders of QUIESCING where no channel takes one. -/
def State.heldAgain (w : State) : State := ((w.setRetention .quiescing).holdFill).holdScrub

theorem State.heldAgain_arb (w : State) (b : BankNo) : w.heldAgain.arb b = { w.arb b with fill := none, scrub := none } := by
  show (w.setRetention .quiescing).withdrawFill.withdrawScrub.arb b = _
  rw [State.withdrawScrub_arb, State.withdrawFill_arb]
  rfl

theorem State.heldAgain_retention (w : State) : w.heldAgain.retention = { w.retention with state := .quiescing } := rfl

theorem State.heldAgain_fill (w : State) : w.heldAgain.fill = { w.fill with held := true } := rfl

theorem State.heldAgain_scrub (w : State) : w.heldAgain.scrub = { w.scrub with state := .held } := rfl

theorem State.heldAgain_frame (w : State) : unchangedBut ([.retention, .fill, .scrub] ++ allArbs) w w.heldAgain := by
  have hfill : unchangedBut ([.retention, .fill, .scrub] ++ allArbs) w (w.setRetention .quiescing).holdFill :=
    (((w.withRetention_frame _).mono (by simp)).andThen (State.withArbs_frame _ _) (by simp +contextual [List.subset_def])).andThen
      (State.withFill_frame _ _) (by simp)
  exact (hfill.andThen (State.withArbs_frame _ _) (by simp +contextual [List.subset_def])).andThen (State.withScrub_frame _ _) (by simp)

/-- An IDLE or HALTED channel takes no RETENTION (R166). -/
theorem State.enterQuiescing_resting {w : State} (h : ∀ n, (w.chan n).state = .idle ∨ (w.chan n).state = .halted) :
    w.enterQuiescing = w.heldAgain := by
  have hstay : ∀ n, (w.setRetention .quiescing).holdChan n = w.setRetention .quiescing := fun n => by
    rcases h n with hn | hn <;> simp [State.holdChan, hn]
  rw [State.enterQuiescing, State.heldAgain]
  simp [Four.indices, hstay]

/-- Beside one requester's, no request has come to the bank: nothing has met (R65). -/
theorem State.meetsAt_of_lone {s t : State} {c : BankNo} (r : Requester)
    (h : ∀ x, x ≠ r → (t.pendingAt c x).isSome = true → (s.pendingAt c x).isSome = true) (hb : t.bank c = s.bank c)
    (ha : t.account c = s.account c) : s.meetsAt t c = false := by
  cases hcand : s.candidates c with
  | cons x l => simp [State.meetsAt, hcand]
  | nil =>
    obtain ⟨hpend, hrefresh⟩ := List.append_eq_nil_iff.1 hcand
    have halone : t.refreshAlone c = false := by
      have hs : s.refreshAlone c = false := by simpa using hrefresh
      rw [← hs]
      simp [State.refreshAlone, State.refreshRequest, State.refreshing, State.urgency, State.isReady, hb, ha]
    have hnd : (otherRequesters.filter fun x => (t.pendingAt c x).isSome).Nodup := List.Nodup.filter _ (by decide)
    have hlen := (List.Nodup.subperm (l₂ := [r]) hnd fun x hx => by
      obtain ⟨hin, hsome⟩ := List.mem_filter.1 hx
      by_contra hne
      exact List.filter_eq_nil_iff.1 hpend x hin (h x (by simpa using hne) hsome)).length_le
    have hfew : (t.candidates c).length ≤ 1 := by
      rw [State.candidates, halone]
      simpa using hlen
    have hnot : ¬ 2 ≤ (t.candidates c).length := by omega
    simp [State.meetsAt, hnot]

/-- Where the requests of fill engine and scrubber have gone, what is still pending was pending before. -/
theorem pendingAt_of_cleared {s t : State} {c : BankNo} (h : t.arb c = { s.arb c with fill := none, scrub := none }) (x : Requester)
    (hx : (t.pendingAt c x).isSome = true) : (s.pendingAt c x).isSome = true := by
  cases x <;> simp only [State.pendingAt, h] at hx ⊢
  case refresh | fill | scrub => exact absurd hx (by simp)
  all_goals exact hx

/-- What the release of channels and fill engine may change. -/
def releaseParts : List Part := [.retention, .fill, .groups] ++ allChans ++ allArbs

section
variable {s v : State}

/-- Once channels and fill engine are released, the scrubber is, and no beat begins. -/
theorem next_waking (hreset : s.resetAsserted = false) (hst : s.retention.state = .waking) (huns : s.retention.unsettled = 0)
    (hv : (s.setRetention .normal).chansReleased.releaseFill = v) (hcred : s.scrub.credits = 0) (hflight : s.scrubInFlight = false)
    (hf : unchangedBut releaseParts s v) (hq : v.portQuiet) :
    exec .wakingComplete s =
      .next (s.meet (if s.retention.req then v.backInService.enterQuiescing else v.backInService)) := by
  have hdue : s.ownDue .wakingComplete = true := by simp [State.ownDue, hreset, State.wakingDue, hst, huns]
  have hscrub : v.scrub = s.scrub := hf .scrub (by simp [releaseParts, allChans, allArbs])
  have hbank : ∀ b, v.bank b = s.bank b := fun b => hf (.bank b) (by simp [releaseParts, allChans, allArbs])
  have hflight' : v.scrubInFlight = false := by simpa only [State.scrubInFlight, State.anyOp, hbank] using hflight
  have hquiet : ({ v with scrub := scrubReleased v.scrub } : State).portQuiet :=
    portQuiet_of_chans hq rfl fun m => .inl rfl
  have hrel : (s.setRetention .normal).releaseAll = { v with scrub := scrubReleased v.scrub } := by
    rw [State.releaseAll_eq, hv, State.releaseScrub_of_no_credit (by rw [hscrub]; exact hcred) hflight',
      State.decideBeat_quiet _ hquiet]
  refine (next_ownIfDue hdue).trans ?_
  rw [show s.ownStep .wakingComplete = s.completeWaking from rfl, State.completeWaking, hrel]
  rfl

/-- What the release leaves at NORMAL: the controller, RET_EXIT, the fill unit and the scrubber. -/
def inService (s t : State) : Prop :=
  t.retention = { s.retention with state := .normal } ∧ t.events = withEvent s.events .retExit ∧
    t.fill = { s.fill with held := false } ∧
    t.scrub = { s.scrub with state := if s.scrub.state = .held then .idle else s.scrub.state }

/-- With RET_REQ low the controller stays at NORMAL (R173). -/
theorem next_waking_low (hreset : s.resetAsserted = false) (hst : s.retention.state = .waking) (huns : s.retention.unsettled = 0)
    (hreq : s.retention.req = false) (hv : (s.setRetention .normal).chansReleased.releaseFill = v) (hcred : s.scrub.credits = 0)
    (hflight : s.scrubInFlight = false) (hf : unchangedBut releaseParts s v) (hq : v.portQuiet)
    (hret : v.retention = { s.retention with state := .normal }) (hfill : v.fill = released s.fill) (r : Requester)
    (hlone : ∀ c x, x ≠ r → (v.pendingAt c x).isSome = true → (s.pendingAt c x).isSome = true) :
    exec .wakingComplete s = .next v.backInService ∧ inService s v.backInService := by
  have hback := v.backInService_frame
  have hscrub : v.scrub = s.scrub := hf .scrub (by simp [releaseParts, allChans, allArbs])
  have hevents : v.events = s.events := hf .events (by simp [releaseParts, allChans, allArbs])
  have hmeet : s.meet v.backInService = v.backInService := s.meet_of_none _ fun c =>
    State.meetsAt_of_lone r (hlone c) (hf (.bank c) (by simp [releaseParts, allChans, allArbs]))
      (hf (.account c) (by simp [releaseParts, allChans, allArbs]))
  refine ⟨?_, (hback .retention (by simp)).trans hret, ?_, (hback .fill (by simp)).trans hfill, ?_⟩
  · rw [next_waking hreset hst huns hv hcred hflight hf hq, hreq, if_neg (by simp), hmeet]
  · show withEvent v.events .retExit = _
    rw [hevents]
  · show scrubReleased v.scrub = _
    rw [hscrub]
    rfl

/-- What the new QUIESCING leaves of the controller, RET_EXIT, the scrubber and the requests. -/
def quiescingAgain (s t : State) : Prop :=
  t.retention = { s.retention with state := .quiescing } ∧ t.events = withEvent s.events .retExit ∧
    t.scrub = { s.scrub with state := .held } ∧ ∀ b, t.arb b = { s.arb b with fill := none, scrub := none }

/-- With RET_REQ high and no channel to hold the controller goes on to QUIESCING (R173). -/
theorem next_waking_high (hreset : s.resetAsserted = false) (hst : s.retention.state = .waking) (huns : s.retention.unsettled = 0)
    (hreq : s.retention.req = true) (hv : (s.setRetention .normal).chansReleased.releaseFill = v) (hcred : s.scrub.credits = 0)
    (hflight : s.scrubInFlight = false) (hf : unchangedBut releaseParts s v) (hq : v.portQuiet)
    (hret : v.retention = { s.retention with state := .normal })
    (hrest : ∀ n, (v.chan n).state = .idle ∨ (v.chan n).state = .halted)
    (harb : ∀ c, { v.arb c with fill := none, scrub := none } = { s.arb c with fill := none, scrub := none }) :
    exec .wakingComplete s = .next v.backInService.heldAgain ∧ quiescingAgain s v.backInService.heldAgain ∧
      v.backInService.heldAgain.fill = { v.fill with held := true } := by
  have hscrub : v.scrub = s.scrub := hf .scrub (by simp [releaseParts, allChans, allArbs])
  have hevents : v.events = s.events := hf .events (by simp [releaseParts, allChans, allArbs])
  have hback := v.backInService_frame
  have harb' : ∀ c, v.backInService.heldAgain.arb c = { s.arb c with fill := none, scrub := none } := fun c => by
    rw [State.heldAgain_arb, hback (.arb c) (by simp), harb]
  have hheld := v.backInService.heldAgain_frame
  have hbank : ∀ c, v.backInService.heldAgain.bank c = s.bank c := fun c => by
    rw [hheld (.bank c) (by simp [allArbs]), hback (.bank c) (by simp), hf (.bank c) (by simp [releaseParts, allChans, allArbs])]
  have hacc : ∀ c, v.backInService.heldAgain.account c = s.account c := fun c => by
    rw [hheld (.account c) (by simp [allArbs]), hback (.account c) (by simp),
      hf (.account c) (by simp [releaseParts, allChans, allArbs])]
  have hmeet : s.meet v.backInService.heldAgain = v.backInService.heldAgain := s.meet_of_none _ fun c =>
    State.meetsAt_of_lone .refresh (fun x _ => pendingAt_of_cleared (harb' c) x) (hbank c) (hacc c)
  have hchans : ∀ n, (v.backInService.chan n).state = .idle ∨ (v.backInService.chan n).state = .halted := fun n => by
    rw [hback (.chan n) (by simp)]
    exact hrest n
  refine ⟨?_, ⟨?_, ?_, ?_, harb'⟩, ?_⟩
  · rw [next_waking hreset hst huns hv hcred hflight hf hq, hreq, if_pos rfl, State.enterQuiescing_resting hchans, hmeet]
  · rw [State.heldAgain_retention, hback .retention (by simp), hret]
  · rw [hheld .events (by simp [allArbs]), State.backInService_events, hevents]
  · rw [State.heldAgain_scrub, State.backInService_scrub, hscrub]
    rfl
  · rw [State.heldAgain_fill, hback .fill (by simp)]

end

section
variable {s : State} {e : FillEntry} {rest : List FillEntry}

/-- The controller at NORMAL and the fill engine not held, nothing else being changed. -/
def State.atNormal (s : State) : State := (s.setRetention .normal).fillFreed

theorem State.atNormal_frame (s : State) : unchangedBut [.retention, .fill] s s.atNormal :=
  ((s.withRetention_frame _).mono (by simp)).andThen (State.withFill_frame _ _) (by simp)

theorem State.atNormal_quiet (h : s.portQuiet) : s.atNormal.portQuiet := portQuiet_of_chans h rfl fun _ => .inl rfl

theorem State.chansReleased_atNormal (h : s.noneRetained) : (s.setRetention .normal).chansReleased = s.setRetention .normal :=
  State.chansReleased_of_none h

/-- No channel held and no group to fill: the engine only loses its hold. -/
theorem State.released_empty (h : s.noneRetained) (hq : s.fill.queue = []) :
    (s.setRetention .normal).chansReleased.releaseFill = s.atNormal := by
  rw [State.chansReleased_atNormal h]
  exact State.releaseFill_empty hq

theorem State.released_filling (h : s.noneRetained) (hq : s.fill.queue = e :: rest) (hheld : s.fill.held = true)
    (hflight : s.fillInFlight = false) (hg : (s.group e.next).state = .filling) :
    (s.setRetention .normal).chansReleased.releaseFill = s.atNormal.placeFill e.next s.fill.segment := by
  rw [State.chansReleased_atNormal h]
  exact State.releaseFill_filling hq hheld hflight hg

theorem State.released_pending (h : s.noneRetained) (hq : s.fill.queue = e :: rest) (hheld : s.fill.held = true)
    (hend : s.fill.ending = false) (hflight : s.fillInFlight = false) (hg : (s.group e.next).state = .fillPending)
    (hr : s.isReady (bankOfGroup e.next) = true) :
    (s.setRetention .normal).chansReleased.releaseFill = s.atNormal.takeUp := by
  rw [State.chansReleased_atNormal h]
  exact State.releaseFill_pending hq hheld hend hflight hg hr

/-- The channels are let go, and the fill engine with an empty queue only loses its hold. -/
theorem State.released_lifted {n : ChanNo} (h : s.mayBeLifted n) (hq : s.fill.queue = []) :
    ∃ v, (s.setRetention .normal).chansReleased.releaseFill = v ∧ retentionLifted s v n ∧ v.portQuiet ∧
      v.retention = { s.retention with state := .normal } ∧ v.fill = released s.fill ∧
      (∀ b, v.arb b = s.arb b ∨ ∃ q, v.arb b = withRequest n q b (s.arb b)) ∧
      unchangedBut ([.retention, .fill] ++ allChans ++ allArbs) s v := by
  obtain ⟨hlifted, hcalm, harb, hframe⟩ := State.chansReleased_lifted (s := s.setRetention .normal) h
  have hu : unchangedBut ([.retention, .fill] ++ allChans ++ allArbs) s (s.setRetention .normal).chansReleased :=
    ((s.withRetention_frame _).mono (by simp)).andThen hframe (by simp +contextual [List.subset_def])
  have hfill : (s.setRetention .normal).chansReleased.fill = s.fill := hframe .fill (by simp [allChans, allArbs])
  exact ⟨_, State.releaseFill_empty (by rw [hfill, hq]), hlifted, portQuiet_of_chans hcalm rfl fun _ => .inl rfl,
    hframe .retention (by simp [allChans, allArbs]), congrArg released hfill, harb, hu.andThen (State.withFill_frame _ _) (by simp)⟩

end

section
variable {s t : State} {c : BankNo} {x : Requester}

theorem pendingAt_of_request {n : ChanNo} (h : t.arb c = s.arb c ∨ ∃ q, t.arb c = withRequest n q c (s.arb c)) (hx : x ≠ .ch n) :
    t.pendingAt c x = s.pendingAt c x := by
  rcases h with h | ⟨q, h⟩
  · cases x <;> simp only [State.pendingAt, h]
  · by_cases hc : c = bankOf q.addr
    · rw [withRequest, if_pos hc] at h
      cases x with
      | ch m =>
        have hm : m ≠ n := fun e => hx (congrArg Requester.ch e)
        simp only [State.pendingAt, h, Four.get_set_ne _ _ hm]
      | _ => simp only [State.pendingAt, h]
    · rw [withRequest, if_neg hc] at h
      cases x <;> simp only [State.pendingAt, h]

theorem pendingAt_of_fillRequest {g seg : Nat} (hr : s.isReady (bankOfGroup g) = true) (hx : x ≠ .fill) :
    (s.placeFill g seg).pendingAt c x = s.pendingAt c x := by
  have harb := State.placeFill_arb (seg := seg) hr c
  split at harb
  · cases x with
    | fill => exact absurd rfl hx
    | _ => simp only [State.pendingAt, harb, withFillRequest]
  · cases x <;> simp only [State.pendingAt, harb]

theorem portQuiet_of_unchanged {ps : List Part} (h : s.portQuiet) (hf : unchangedBut ps s t) (hs : .stream ∉ ps)
    (hc : ∀ n, .chan n ∉ ps) : t.portQuiet :=
  portQuiet_of_chans h (hf .stream hs) fun m => .inl (hf (.chan m) (hc m))

end

/-- Settles O41: the release, then RET_REQ as it stands. -/
theorem wakingEndsInService : Obligations.WakingEndsInService := by
  refine fun s hreset hst huns hcred hflight hquiet => ⟨fun n hreq hq hlift => ?_, fun hnone hreq hq => ?_,
    fun e rest hnone hreq hq hheld hidle hg hr => ?_,
    fun hnone hreq hrest => ⟨fun hq => ?_, fun e rest hwf hq hheld hend hidle hg hr => ?_⟩⟩
  · obtain ⟨v, hv, hlifted, hcalm, hret, hfill, harb, hf⟩ := State.released_lifted hlift hq
    obtain ⟨hnext, hserved⟩ := next_waking_low hreset hst huns hreq hv hcred hflight
      (hf.mono (by simp +contextual [releaseParts, List.subset_def])) hcalm hret hfill (.ch n)
      fun c x hx => by rw [pendingAt_of_request (harb c) hx]; exact id
    exact ⟨_, hnext, hserved, hlifted,
      (hf.mono (by simp +contextual [List.subset_def])).andThen v.backInService_frame (by simp)⟩
  · obtain ⟨hnext, hserved⟩ := next_waking_low hreset hst huns hreq (State.released_empty hnone hq) hcred hflight
      (s.atNormal_frame.mono (by simp [releaseParts])) (State.atNormal_quiet hquiet) rfl rfl .refresh fun _ _ _ => id
    exact ⟨_, hnext, hserved, (s.atNormal_frame.mono (by simp)).andThen (State.backInService_frame _) (by simp)⟩
  · have hplace := State.placeFill_frame (s := s.atNormal) (seg := s.fill.segment) hr
    have hf : unchangedBut [.retention, .fill, .arb (bankOfGroup e.next)] s (s.atNormal.placeFill e.next s.fill.segment) :=
      (s.atNormal_frame.mono (by simp)).andThen hplace (by simp)
    obtain ⟨hnext, hserved⟩ := next_waking_low hreset hst huns hreq (State.released_filling hnone hq hheld hidle hg) hcred hflight
      (hf.mono (by simp [releaseParts])) (portQuiet_of_unchanged hquiet hf (by simp) (by simp)) (hplace .retention (by simp))
      (hplace .fill (by simp)) .fill fun c x hx => by rw [pendingAt_of_fillRequest (s := s.atNormal) hr hx]; exact id
    exact ⟨_, hnext, hserved, (State.placeFill_arb (s := s.atNormal) hr _).trans (if_pos rfl),
      (hf.mono (by simp)).andThen (State.backInService_frame _) (by simp)⟩
  · obtain ⟨hnext, hagain, hfill⟩ := next_waking_high hreset hst huns hreq (State.released_empty hnone hq) hcred
      hflight (s.atNormal_frame.mono (by simp [releaseParts])) (State.atNormal_quiet hquiet) rfl hrest fun _ => rfl
    refine ⟨_, hnext, hagain, hfill, ?_⟩
    exact ((s.atNormal_frame.mono (by simp)).andThen (State.backInService_frame _) (by simp)).andThen (State.heldAgain_frame _)
      (by simp +contextual [List.subset_def])
  · obtain ⟨hgroup, hothers, hfill, harb, htake⟩ := State.takeUp_rule (s := s.atNormal) hq hwf hr
    have hf : unchangedBut [.retention, .fill, .groups, .arb (bankOfGroup e.next)] s s.atNormal.takeUp :=
      (s.atNormal_frame.mono (by simp)).andThen htake (by simp)
    have hclear : ∀ c, { s.atNormal.takeUp.arb c with fill := none, scrub := none } = { s.arb c with fill := none, scrub := none } :=
      fun c => by
        by_cases hc : c = bankOfGroup e.next
        · rw [hc, harb]
          rfl
        · rw [hf (.arb c) (by simp [hc])]
    have hchans : ∀ n, (s.atNormal.takeUp.chan n).state = .idle ∨ (s.atNormal.takeUp.chan n).state = .halted := fun n => by
      rw [hf (.chan n) (by simp)]
      exact hrest n
    obtain ⟨hnext, hagain, hfill'⟩ := next_waking_high hreset hst huns hreq
      (State.released_pending hnone hq hheld hend hidle hg hr) hcred hflight (hf.mono (by simp [releaseParts]))
      (portQuiet_of_unchanged hquiet hf (by simp) (by simp)) (htake .retention (by simp)) hchans hclear
    have hlater : unchangedBut ([.retention, .fill, .scrub, .events] ++ allArbs) s.atNormal.takeUp
        s.atNormal.takeUp.backInService.heldAgain :=
      ((State.backInService_frame _).mono (by simp)).andThen (State.heldAgain_frame _) (by simp +contextual [List.subset_def])
    have hgroups := group_of_frame hlater (by simp [allArbs])
    exact ⟨_, hnext, hagain, (hgroups _).trans hgroup, fun g hne => (hgroups g).trans (hothers g hne), hfill'.trans (by rw [hfill]; rfl),
      (hf.mono (by simp)).andThen hlater (by simp +contextual [List.subset_def])⟩

end Sys2Proof.Machine
end

section
-- One thread at a time: the stack of each thread counts against the memory limit of the check.
set_option Elab.async false
/-! SUPPORT. Proofs/RefreshAccounts.lean: the end of reset, a write to CONFIG, and what a completed REFRESH settles. -/

namespace Sys2Proof.Machine

/-! ### RESET is released (R42, R174) -/

/-- The part as RESET's release finds it, with the tick timer started. -/
def State.started (s : State) : State := { s with resetAsserted := false, tick := { running := true, count := 0 } }

theorem State.started_frame (s : State) : unchangedBut [.resetLine, .tick] s s.started := by
  intro p hp
  cases p with
  | resetLine | tick => simp at hp
  | _ => rfl

theorem State.releaseReset_eq {s : State} (h : s.resetAsserted = true) :
    s.releaseReset = if s.retention.req then s.started.enterQuiescing else s.started :=
  if_pos h

/-- Settles O11. -/
theorem resetReleaseStartsTheClock : Obligations.ResetReleaseStartsTheClock := by
  intro s hreset
  have hnext : exec .resetRelease s = .next s.releaseReset := rfl
  rw [hnext, State.releaseReset_eq hreset]
  refine ⟨fun hreq => ?_, fun hreq hidle => ⟨s.started.heldAgain, ?_, ?_⟩⟩
  · rw [hreq]
    rfl
  · rw [hreq, if_pos rfl, State.enterQuiescing_resting (w := s.started) fun n => .inl (hidle n)]
  · have hheld := s.started.heldAgain_frame
    exact ⟨hheld .resetLine (by simp [allArbs]), hheld .tick (by simp [allArbs]), s.started.heldAgain_retention,
      s.started.heldAgain_fill, s.started.heldAgain_scrub, s.started.heldAgain_arb,
      (s.started_frame.mono (by simp)).andThen hheld (by simp +contextual [List.subset_def])⟩

/-! ### A write to CONFIG (R43) -/

theorem State.writeConfig_frame (s : State) (x : Word) : unchangedBut [.config, .tick] s (s.writeConfig x) := by
  intro p hp
  cases p with
  | config | tick => simp at hp
  | _ => rfl

theorem State.writeConfig_tick (s : State) (x : Word) : (s.writeConfig x).tick =
    if x.extractLsb' 0 8 = s.config.tickdiv then s.tick else { s.tick with count := 0 } := rfl

/-- A running tick timer fires at 64 periods for each unit of TICKDIV, 0 counting as 1 (R42). -/
theorem State.timeUp_tick_running (s : State) (k : Nat) :
    ({ s with tick := { running := true, count := k } } : State).timeUp .tick =
      decide (64 * max 1 s.config.tickdiv.toNat ≤ k) := by
  rw [Nat.mul_comm]
  rfl

/-- Settles O47. -/
theorem tickdivChangeRestartsTheTimer : Obligations.TickdivChangeRestartsTheTimer := by
  intro s x hfree
  have htick : ((s.writeConfig x).endCycle (.ready none)).tick = (s.writeConfig x).tick :=
    State.endCycle_frame _ _ .tick (by simp)
  refine ⟨_, next_busCycle hfree, rfl, fun hne => ?_, fun heq => ?_, fun k => State.timeUp_tick_running _ k, rfl,
    ((s.writeConfig_frame x).mono (by simp)).andThen (State.endCycle_frame _ _) (by simp)⟩
  · rw [htick, State.writeConfig_tick, if_neg hne]
  · rw [htick, State.writeConfig_tick, if_pos heq]

/-! ### What a completed REFRESH settles (R54, R55, R58) -/

/-- The skipping rule passes over groups that need no refresh, each lowering the balance by 1, and never below −4. -/
theorem State.skips_passes (b : BankNo) (fuel : Nat) : ∀ s : State, -4 ≤ (s.account b).balance → ∃ k : Nat,
    (s.skips b fuel).account b =
      { balance := (s.account b).balance - k, cursor := (s.account b).cursor + BitVec.ofNat 8 k } ∧
    (∀ j < k, s.needsRefresh (globalGroup b ((s.account b).cursor + BitVec.ofNat 8 j)) = false) ∧
    -4 ≤ ((s.skips b fuel).account b).balance := by
  induction fuel with
  | zero => exact fun s hlow => ⟨0, by simp [State.skips], by simp, hlow⟩
  | succ fuel ih =>
    intro s hlow
    rw [State.skips]
    split
    · rename_i hdue
      obtain ⟨⟨⟨-, habove⟩, -⟩, hfree⟩ : ((s.isReady b = true ∧ -4 < (s.account b).balance) ∧ s.refreshing b = false) ∧
          s.needsRefresh (s.cursorGroup b) = false := by simpa [State.skipDue] using hdue
      have hacc : (s.settleOne b (-1)).account b =
          { balance := (s.account b).balance + -1, cursor := (s.account b).cursor + 1#8 } := by
        rw [State.settleOne_account, if_pos rfl]
      obtain ⟨k, hk, hpassed, hend⟩ := ih (s.settleOne b (-1)) (by rw [hacc]; simp only; omega)
      rw [hacc] at hk hpassed
      have hcursor : ∀ j, (s.account b).cursor + 1#8 + BitVec.ofNat 8 j = (s.account b).cursor + BitVec.ofNat 8 (j + 1) :=
        fun j => by rw [BitVec.add_assoc, ← BitVec.ofNat_add, Nat.add_comm]
      refine ⟨k + 1, ?_, fun j hj => ?_, hend⟩
      · rw [hk, hcursor, RefreshAccount.mk.injEq]
        exact ⟨by push_cast; ring, rfl⟩
      · cases j with
        | zero => simpa [State.cursorGroup] using hfree
        | succ j =>
          rw [← hcursor]
          exact hpassed j (Nat.lt_of_succ_lt_succ hj)
    · exact ⟨0, by simp, by simp, hlow⟩

/-- Settles O33. -/
theorem refreshSettlesAndSkips : Obligations.RefreshSettlesAndSkips := by
  intro s b o hrest hop hkind hready
  have hcleared : unchangedBut [.bank b] s (s.clearOp b) := s.setBank_frame b _
  have hbank : (s.clearOp b).bank b = { s.bank b with op := none } := by rw [State.clearOp_bank, if_pos rfl]
  have hdone : s.refreshCompletes b = if (s.bank b).offWaiting then (s.clearOp b).setBalance b 0 0#8
      else ((s.clearOp b).settleOne b (-1)).applySkip b := State.onOp_of_op hop (by simp [hkind])
  refine ⟨fun hoff hlow => ?_, fun hoff => ⟨_, next_happen hrest, ?_⟩⟩
  · let u := (s.clearOp b).settleOne b (-1)
    have hacc : u.account b = { balance := (s.account b).balance - 1, cursor := (s.account b).cursor + 1#8 } := by
      rw [State.settleOne_account, if_pos rfl]
      rfl
    have hready' : u.isReady b = true := by
      show (((s.clearOp b).bank b).state == .ready) = true
      rw [hbank]
      exact hready
    have href : u.refreshing b = false := by
      show ((s.clearOp b).bank b).op.any _ = false
      rw [hbank]
      rfl
    have hlow' : -4 ≤ (u.account b).balance := by
      rw [hacc]
      simp only
      omega
    obtain ⟨k, hk, hpassed, hend⟩ := State.skips_passes b _ u hlow'
    have hskip := u.applySkip_frame b
    rw [hacc] at hk hpassed
    rw [if_neg (by simp [hoff])] at hdone
    refine ⟨u.applySkip b, k, (next_happen hrest).trans (congrArg _ hdone), hk, hpassed, hend,
      u.applySkip_rest b hready' href hlow', (hskip (.bank b) (by simp)).trans hbank, ?_⟩
    exact ((hcleared.mono (by simp)).andThen (State.setAccount_frame _ b _) (by simp)).andThen hskip (by simp)
  · rw [hdone, if_pos hoff]
    exact ⟨by rw [State.setBalance_account, if_pos rfl], hbank,
      (hcleared.mono (by simp)).andThen (State.setAccount_frame _ b _) (by simp)⟩

end Sys2Proof.Machine
end

section
-- One thread at a time: the stack of each thread counts against the memory limit of the check.
set_option Elab.async false
/-! SUPPORT. Proofs/Overrun.lean: a refresh tick at a bank that owes eight obligations already. -/

namespace Sys2Proof.Machine

/-! ### A group is sacrificed (R48, R50) -/

/-- A LAPSE record of group `g` has been made, and LAPSE raised (R50). -/
def State.lapseReported (s : State) (g : Nat) : State :=
  { s with log := logged s.log (groupFinding .lapse .refresh g), events := withEvent s.events .lapse }

theorem State.lapseReported_frame (s : State) (g : Nat) : unchangedBut [.log, .events] s (s.lapseReported g) := by
  intro p hp
  cases p with
  | log | events => simp at hp
  | _ => rfl

theorem State.hand_lapse (s : State) (g : Nat) (hl : s.log.records.length < 8) :
    (s.hand (groupFinding .lapse .refresh g)).raise .lapse = s.lapseReported g := by
  rw [s.hand_eq_logged _ (coalesces_of_kind_ne _ _ (by simp [groupFinding])) hl]
  rfl

theorem State.sacrifice_keep (s : State) (g : Nat) (hg : (s.group g).state = .keep) (hl : s.log.records.length < 8) :
    s.sacrifice g = (s.setGroupState g .lapsed).lapseReported g := by
  simp only [State.sacrifice, hg]
  exact State.hand_lapse (s.setGroupState g .lapsed) g hl

theorem State.restartFill_frame (s : State) (g : Nat) : unchangedBut (.fill :: allArbs) s (s.restartFill g) := by
  unfold State.restartFill
  dsimp only
  split
  · have hfill := (s.withFill_frame { s.fill with segment := 0, restart := s.fill.restart || s.fillInFlight }).mono
      (qs := .fill :: allArbs) (by simp)
    split
    · unfold State.placeFill
      dsimp only
      split
      · exact hfill.andThen (State.setArb_frame _ _ _) (by simp)
      · exact hfill
    · exact hfill
  · exact .refl _ s

theorem State.sacrifice_filling (s : State) (g : Nat) (hg : (s.group g).state = .filling) (hl : s.log.records.length < 8) :
    s.sacrifice g = (s.restartFill g).lapseReported g := by
  simp only [State.sacrifice, hg]
  exact State.hand_lapse _ g (by rw [s.restartFill_frame g .log (by simp [allArbs])]; exact hl)

theorem State.sacrifice_frame (s : State) (g : Nat) :
    unchangedBut ([.groups, .fill, .log, .events] ++ allArbs) s (s.sacrifice g) := by
  unfold State.sacrifice
  split
  · exact (((s.setGroupState_frame g _).mono (by simp)).andThen (State.hand_frame _ _) (by simp)).andThen
      (State.raise_frame _ _) (by simp)
  · exact (((s.restartFill_frame g).mono (by simp +contextual [List.subset_def])).andThen (State.hand_frame _ _) (by simp)).andThen
      (State.raise_frame _ _) (by simp)
  all_goals exact .refl _ s

/-- No other group is touched. -/
theorem State.sacrifice_group_of_ne (s : State) (g k : Nat) (hwf : s.tablesWf) (hk : k ≠ g) :
    (s.sacrifice g).group k = s.group k := by
  unfold State.sacrifice
  split
  · show ((s.setGroupState g .lapsed).hand _).group k = _
    rw [State.hand_group, s.setGroupState_group g k _ hwf, if_neg hk]
  · show ((s.restartFill g).hand _).group k = _
    rw [State.hand_group, State.group, State.restartFill_groups, State.group]
  all_goals rfl

/-! ### The fill of the group restarts (R34) -/

/-- The fill unit after an overrun at its group; `flight` says that a segment is in flight. -/
def fillRestarted (f : FillUnit) (flight : Bool) : FillUnit :=
  if f.ending then f else { f with segment := 0, restart := f.restart || flight }

/-- The request pending for the group, after an overrun of it. -/
def requestRestarted (f : FillUnit) (g : Nat) (q : Request) : Request := if f.ending then q else fillRequest g 0

/-- With the group's bank READY and alone in holding a fill request, that request becomes one for segment 0. -/
theorem State.restartFill_rule (s : State) (g : Nat) (hg : s.fillingGroup = some g) (hready : s.isReady (bankOfGroup g) = true)
    (hlone : ∀ c, c ≠ bankOfGroup g → (s.arb c).fill = none) :
    (s.restartFill g).fill = fillRestarted s.fill s.fillInFlight ∧
      ∀ c, (s.restartFill g).arb c = { s.arb c with fill := (s.arb c).fill.map (requestRestarted s.fill g) } := by
  by_cases hend : s.fill.ending = true
  · have hkeep : requestRestarted s.fill g = id := funext fun q => if_pos hend
    rw [State.restartFill, if_neg (by simp [hend]), hkeep]
    exact ⟨(if_pos hend).symm, fun c => by rw [Option.map_id, id]⟩
  · let u : State := { s with fill := fillRestarted s.fill s.fillInFlight }
    have he : s.restartFill g = if s.fillPendingRequest then u.placeFill g 0 else u := by
      rw [State.restartFill, if_pos ⟨hg, by simpa using hend⟩]
      simp only [u, fillRestarted, if_neg hend]
    have hnone : ∀ c, (s.arb c).fill = none →
        { s.arb c with fill := (s.arb c).fill.map (requestRestarted s.fill g) } = s.arb c := fun c hc => by
      rw [hc, Option.map_none, ← hc]
    rw [he]
    cases hq : (s.arb (bankOfGroup g)).fill with
    | none =>
      have hall : ∀ c, (s.arb c).fill = none := fun c => by
        by_cases hc : c = bankOfGroup g
        · rw [hc, hq]
        · exact hlone c hc
      have hpend : s.fillPendingRequest = false := List.any_eq_false.2 fun c _ => by simp [hall c]
      rw [if_neg (by simp [hpend])]
      exact ⟨rfl, fun c => (hnone c (hall c)).symm⟩
    | some q =>
      have hpend : s.fillPendingRequest = true := List.any_eq_true.2 ⟨bankOfGroup g, Four.mem_indices _, by simp [hq]⟩
      rw [if_pos hpend]
      refine ⟨State.placeFill_frame (s := u) hready .fill (by simp), fun c => ?_⟩
      rw [State.placeFill_arb (s := u) hready c]
      split
      · rename_i hc
        subst hc
        rw [hq, Option.map_some, requestRestarted, if_neg hend]
        rfl
      · rename_i hc
        exact (hnone c (hlone c hc)).symm

/-! ### The bank that overruns (R48, R49) -/

/-- Group `g` is the one that an overrun at bank `b` sacrifices, and the cursor then needs no skip. -/
def State.overrunsAt (s : State) (b : BankNo) (g : Nat) : Prop :=
  (s.refreshing b = false ∧ g = s.cursorGroup b ∧ s.needsRefresh (globalGroup b ((s.account b).cursor + 1#8)) = true) ∨
    ∃ o, (s.bank b).op = some o ∧ o.kind = .refresh ∧ g = groupOf o.addr

/-- The account that an overrun at bank `b` leaves. -/
def State.overrunAccount (s : State) (b : BankNo) : RefreshAccount :=
  { balance := 8, cursor := (s.account b).cursor + if s.refreshing b then 0#8 else 1#8 }

/-- The part after an overrun at bank `b` that sacrifices group `g` (`State.tickBank_overrun`). -/
def State.overran (s : State) (b : BankNo) (g : Nat) : State := (s.sacrifice g).setAccount b (s.overrunAccount b)

theorem State.overran_account (s : State) (b : BankNo) (g : Nat) : (s.overran b g).account b = s.overrunAccount b := by
  rw [State.overran, State.setAccount_account, if_pos rfl]

theorem State.overran_bank (s : State) (b : BankNo) (g : Nat) (c : BankNo) : (s.overran b g).bank c = s.bank c :=
  s.sacrifice_frame g (.bank c) (by simp [allArbs])

section
variable {s : State} {b : BankNo}

/-- The group that a REFRESH in flight refreshes is the one sacrificed (R49). -/
theorem State.tickBank_overrun_refreshing {g : Nat} (hr : s.isReady b = true) (h8 : (s.account b).balance = 8)
    (hg : s.refreshedGroup b = some g) : s.tickBank b = s.sacrifice g := by
  simp only [State.isReady, beq_iff_eq] at hr
  simp only [State.tickBank, hr, h8, lt_self_iff_false, if_false, hg]

/-- Without one the group at the cursor is, and the cursor moves on (R48). -/
theorem State.tickBank_overrun_idle (hr : s.isReady b = true) (h8 : (s.account b).balance = 8)
    (hn : s.refreshedGroup b = none) : s.tickBank b = ((s.sacrifice (s.cursorGroup b)).settleOne b 0).applySkip b := by
  simp only [State.isReady, beq_iff_eq] at hr
  simp only [State.tickBank, hr, h8, lt_self_iff_false, if_false, hn]

end

theorem globalGroup_succ_ne (b : BankNo) (c : BitVec 8) : globalGroup b (c + 1#8) ≠ globalGroup b c := by
  unfold globalGroup
  bv_omega

theorem State.tickBank_overrun (s : State) (b : BankNo) (g : Nat) (hwf : s.tablesWf) (hr : s.isReady b = true)
    (h8 : (s.account b).balance = 8) (hg : s.overrunsAt b g) : s.tickBank b = s.overran b g := by
  have hacc : ∀ k, (s.sacrifice k).account b = s.account b := fun k => s.sacrifice_frame k (.account b) (by simp [allArbs])
  rcases hg with ⟨href, hcur, hnext⟩ | ⟨o, hop, hkind, rfl⟩
  · have hnone : s.refreshedGroup b = none := by
      cases hop : (s.bank b).op <;> simp_all [State.refreshedGroup, State.refreshing]
    have hsettled : (s.sacrifice g).settleOne b 0 = s.overran b g := by
      rw [State.settleOne, hacc, State.overran, State.overrunAccount, h8, href]
      rfl
    have hcursor : (s.overran b g).cursorGroup b = globalGroup b ((s.account b).cursor + 1#8) := by
      rw [State.cursorGroup, State.overran_account, State.overrunAccount, href]
      rfl
    have hstays : (s.overran b g).group (globalGroup b ((s.account b).cursor + 1#8)) =
        s.group (globalGroup b ((s.account b).cursor + 1#8)) :=
      s.sacrifice_group_of_ne g _ hwf (hcur ▸ globalGroup_succ_ne b _)
    have hneed : (s.overran b g).needsRefresh ((s.overran b g).cursorGroup b) = true := by
      rw [hcursor, State.needsRefresh, hstays]
      exact hnext
    rw [State.tickBank_overrun_idle hr h8 hnone, ← hcur, hsettled,
      State.applySkip_of_not_due _ b (State.skipDue_of_needed _ b (.inr hneed))]
  · have hsome : s.refreshedGroup b = some (groupOf o.addr) := by simp [State.refreshedGroup, hop, hkind]
    have href : s.refreshing b = true := by simp [State.refreshing, hop, hkind]
    have hsame : s.overrunAccount b = s.account b := by
      rw [State.overrunAccount, href, ← h8]
      simp
    rw [State.tickBank_overrun_refreshing hr h8 hsome, State.overran, hsame, ← hacc (groupOf o.addr),
      State.setAccount, State.account, Four.set_get]

/-! ### The banks beside it, the scrubber and the marking -/

/-- `u` is `s` but for the tick timer and for what its banks count: state and operation of each are as before. -/
structure counted (s u : State) : Prop where
  frame : unchangedBut (.tick :: allBanks) s u
  op : ∀ c, (u.bank c).op = (s.bank c).op
  state : ∀ c, (u.bank c).state = (s.bank c).state

theorem counted.refl (s : State) : counted s s := ⟨.refl _ s, fun _ => rfl, fun _ => rfl⟩

theorem counted.trans {s t u : State} (h : counted s t) (h' : counted t u) : counted s u :=
  ⟨h.frame.trans h'.frame, fun c => (h'.op c).trans (h.op c), fun c => (h'.state c).trans (h.state c)⟩

theorem counted.isReady {s u : State} (h : counted s u) (c : BankNo) : u.isReady c = s.isReady c := by
  rw [State.isReady, h.state, State.isReady]

theorem counted.refreshing {s u : State} (h : counted s u) (c : BankNo) : u.refreshing c = s.refreshing c := by
  rw [State.refreshing, h.op, State.refreshing]

theorem counted.fillInFlight {s u : State} (h : counted s u) : u.fillInFlight = s.fillInFlight := by
  simp only [State.fillInFlight, State.anyOp, h.op]

theorem counted.tablesWf {s u : State} (h : counted s u) (hwf : s.tablesWf) : u.tablesWf := by
  rw [State.tablesWf, h.frame .array (by simp [allBanks]), h.frame .groups (by simp [allBanks])]
  exact hwf

theorem State.tickBank_unready (s : State) (c : BankNo) (hr : s.isReady c = false) : counted s (s.tickBank c) := by
  by_cases hi : (s.bank c).state = .init
  · rw [s.tickBank_init c hi]
    split
    · refine ⟨(s.setBank_frame c _).mono (by simp), fun d => ?_, fun d => ?_⟩
      all_goals
        rw [State.setBank_bank]
        split
        · rename_i hd
          rw [hd]
        · rfl
    · exact .refl s
  · rw [s.tickBank_other c hr hi]
    exact .refl s

theorem State.tickBanks_unready (l : List BankNo) : ∀ s : State, (∀ c ∈ l, s.isReady c = false) →
    counted s (l.foldl (fun t c => t.tickBank c) s) := by
  induction l with
  | nil => exact fun s _ => .refl s
  | cons c rest ih =>
    intro s h
    have hstep := s.tickBank_unready c (h c (by simp))
    exact hstep.trans (ih _ fun d hd => (hstep.isReady d).trans (h d (by simp [hd])))

/-- An arbiter without what a tick's end may change there: the SCRUB request and the mark. -/
def besideScrub (a : Arbiter) : Arbiter := { a with scrub := none, met := false }

/-- The scrubber's part in a tick, and the marking of requests that have met (R44, R91, R65). -/
theorem State.tickEnds (s v : State) : unchangedBut (.scrub :: allArbs) v (s.meet v.tickScrub) ∧
    ∀ c, besideScrub ((s.meet v.tickScrub).arb c) = besideScrub (v.arb c) := by
  let w : State := { v with scrub := { v.scrub with credits := min Config.creditCap (v.scrub.credits + v.config.scrubRate) } }
  obtain ⟨-, harb, hsearch⟩ := w.searchScrub_rule
  obtain ⟨a, hmeet, hmet⟩ := State.meet_eq s w.searchScrub
  rw [show s.meet v.tickScrub = { w.searchScrub with arbs := a } from hmeet]
  refine ⟨(((v.withScrub_frame _).mono (by simp)).andThen hsearch (by simp)).andThen (State.withArbs_frame _ a) (by simp),
    fun c => ?_⟩
  exact (congrArg (fun x : Arbiter => { x with scrub := none }) (hmet c)).trans
    (congrArg (fun x : Arbiter => { x with met := false }) (harb c))

/-- A tick at the one READY bank, which overruns: before it and after it only settle waits are counted. -/
theorem State.refreshTick_overrun (s : State) (b : BankNo) (g : Nat) (hwf : s.tablesWf) (hr : s.isReady b = true)
    (hothers : ∀ c, c ≠ b → s.isReady c = false) (h8 : (s.account b).balance = 8) (hg : s.overrunsAt b g) :
    ∃ u, counted s u ∧ unchangedBut (.tick :: .scrub :: allBanks ++ allArbs) (u.overran b g) s.refreshTick ∧
      ∀ c, besideScrub (s.refreshTick.arb c) = besideScrub ((u.overran b g).arb c) := by
  obtain ⟨before, after, hsplit⟩ := List.append_of_mem (Four.mem_indices b)
  have hnd : (before ++ b :: after).Nodup := hsplit ▸ by decide
  have hb : b ∉ before ++ after := (List.nodup_middle.1 hnd).notMem
  have hne : ∀ c ∈ before ++ after, c ≠ b := fun c hc h => hb (h ▸ hc)
  have hstart : counted s { s with tick := { s.tick with count := 0 } } :=
    ⟨(s.withTick_frame _).mono (by simp), fun _ => rfl, fun _ => rfl⟩
  let u := before.foldl (fun t c => t.tickBank c) { s with tick := { s.tick with count := 0 } }
  have hu : counted s u := hstart.trans (State.tickBanks_unready before _ fun c hc => hothers c (hne c (by simp [hc])))
  have hacc : u.account b = s.account b := hu.frame (.account b) (by simp [allBanks])
  have hgroups : u.groups = s.groups := hu.frame .groups (by simp [allBanks])
  have hg' : u.overrunsAt b g := by
    rw [State.overrunsAt, hu.refreshing, hu.op, State.cursorGroup, hacc, State.needsRefresh_congr hgroups]
    exact hg
  have htick : u.tickBank b = u.overran b g := u.tickBank_overrun b g (hu.tablesWf hwf) ((hu.isReady b).trans hr) (hacc ▸ h8) hg'
  have hrest : counted (u.overran b g) (after.foldl (fun t c => t.tickBank c) (u.overran b g)) :=
    State.tickBanks_unready after _ fun c hc => by
      rw [State.isReady, State.overran_bank]
      exact (hu.isReady c).trans (hothers c (hne c (by simp [hc])))
  have he : s.refreshTick = s.meet (after.foldl (fun t c => t.tickBank c) (u.overran b g)).tickScrub := by
    rw [State.refreshTick, hsplit, List.foldl_append, List.foldl_cons, ← htick]
  obtain ⟨hframe, harb⟩ := s.tickEnds (after.foldl (fun t c => t.tickBank c) (u.overran b g))
  rw [he]
  refine ⟨u, hu, (hrest.frame.mono (by grind)).andThen hframe (by grind), fun c => ?_⟩
  rw [harb c, hrest.frame (.arb c) (by simp [allBanks])]

/-! ### What the overrun leaves -/

theorem State.fillingGroup_congr {s t : State} (hf : t.fill = s.fill) (hg : t.groups = s.groups) :
    t.fillingGroup = s.fillingGroup := by
  have hgroup : t.group = s.group := funext fun k => by rw [State.group, hg, State.group]
  rw [State.fillingGroup, State.fillingGroup, hf, hgroup]

theorem State.filling_of_fillingGroup {s : State} {g : Nat} (h : s.fillingGroup = some g) : (s.group g).state = .filling := by
  unfold State.fillingGroup at h
  split at h
  · cases h
  · split at h
    · rename_i hg
      cases h
      exact hg
    · cases h

/-- `t` shows an overrun of group `g` at bank `b` of `s`: the account, the record and the event (R48, R49, R50). -/
def overrunShown (s t : State) (b : BankNo) (g : Nat) : Prop :=
  t.account b = s.overrunAccount b ∧ t.log = logged s.log (groupFinding .lapse .refresh g) ∧ t.events = withEvent s.events .lapse

/-- What a sacrifice that ends in a report shows once the tick is over; `v` is the part as the report finds it. -/
theorem overrunShown_of_reported {s u v t : State} {b : BankNo} {g : Nat} (hu : counted s u)
    (hv : u.sacrifice g = v.lapseReported g) (hframe : unchangedBut (.fill :: .groups :: allArbs) u v)
    (ht : unchangedBut (.tick :: .scrub :: allBanks ++ allArbs) (u.overran b g) t) : overrunShown s t b g := by
  have hacc : u.account b = s.account b := hu.frame (.account b) (by simp [allBanks])
  have hlog : v.log = s.log := (hframe .log (by simp [allArbs])).trans (hu.frame .log (by simp [allBanks]))
  have hevents : v.events = s.events := (hframe .events (by simp [allArbs])).trans (hu.frame .events (by simp [allBanks]))
  refine ⟨(ht (.account b) (by simp [allBanks, allArbs])).trans ?_, (ht .log (by simp [allBanks, allArbs])).trans ?_,
    (ht .events (by simp [allBanks, allArbs])).trans ?_⟩
  · rw [State.overran_account, State.overrunAccount, hacc, hu.refreshing, State.overrunAccount]
  · show (u.sacrifice g).log = _
    rw [hv, ← hlog]
    rfl
  · show (u.sacrifice g).events = _
    rw [hv, ← hevents]
    rfl

/-- Settles O13: the sacrifice at the one READY bank, carried through the rest of the tick. -/
theorem overrunLapsesAGroup : Obligations.OverrunLapsesAGroup := by
  intro s b g hrest hwf hr hothers h8 hroom hg
  obtain ⟨u, hu, ht, harb⟩ := s.refreshTick_overrun b g hwf hr hothers h8 hg
  have hgroups : u.groups = s.groups := hu.frame .groups (by simp [allBanks])
  have hgroup : ∀ k, u.group k = s.group k := fun k => by rw [State.group, hgroups, State.group]
  have hfill : u.fill = s.fill := hu.frame .fill (by simp [allBanks])
  have huarb : ∀ c, u.arb c = s.arb c := fun c => hu.frame (.arb c) (by simp [allBanks])
  have hroom' : u.log.records.length < 8 := by rwa [hu.frame .log (by simp [allBanks])]
  refine ⟨fun hkeep => ?_, fun hfilling hbank hlone => ?_⟩
  · have hsac : u.sacrifice g = (u.setGroupState g .lapsed).lapseReported g :=
      u.sacrifice_keep g (by rw [hgroup, hkeep]) hroom'
    have hlapse := u.setGroupState_frame g .lapsed
    have hover : unchangedBut [.groups, .log, .events, .account b] u (u.overran b g) := by
      rw [State.overran, hsac]
      exact ((hlapse.mono (by simp)).andThen (State.lapseReported_frame _ g) (by simp)).andThen
        (State.setAccount_frame _ b _) (by simp)
    have hafter : ∀ k, s.refreshTick.group k = if k = g then { s.group g with state := .lapsed } else s.group k := fun k => by
      rw [group_of_frame ht (by simp [allBanks, allArbs]), ← hgroup g, ← hgroup k,
        ← u.setGroupState_group g k .lapsed (hu.tablesWf hwf)]
      show (u.sacrifice g).group k = _
      rw [hsac]
      rfl
    refine ⟨_, next_happen hrest, overrunShown_of_reported hu hsac (hlapse.mono (by simp)) ht, (hafter g).trans (if_pos rfl),
      fun k hk => (hafter k).trans (if_neg hk), fun c => (harb c).trans ?_, ?_⟩
    · rw [hover (.arb c) (by simp), huarb c]
      rfl
    · exact ((hu.frame.mono (by grind)).andThen hover (by grind)).andThen ht (by grind)
  · subst hbank
    have hfilling' : u.fillingGroup = some g := (State.fillingGroup_congr hfill hgroups).trans hfilling
    have hsac : u.sacrifice g = (u.restartFill g).lapseReported g :=
      u.sacrifice_filling g (State.filling_of_fillingGroup hfilling') hroom'
    have hrestart := u.restartFill_frame g
    have hover : unchangedBut (.fill :: .log :: .events :: .account (bankOfGroup g) :: allArbs) u (u.overran (bankOfGroup g) g) := by
      rw [State.overran, hsac]
      exact ((hrestart.mono (by grind)).andThen (State.lapseReported_frame _ g) (by simp)).andThen
        (State.setAccount_frame _ _ _) (by simp)
    obtain ⟨hfill', harb'⟩ := u.restartFill_rule g hfilling' ((hu.isReady _).trans hr) fun c hc => by rw [huarb, hlone c hc]
    have hafter : ∀ c, besideScrub (s.refreshTick.arb c) =
        besideScrub { s.arb c with fill := (s.arb c).fill.map (requestRestarted s.fill g) } := fun c => by
      rw [harb c, ← huarb c, ← hfill, ← harb' c]
      show besideScrub ((u.sacrifice g).arb c) = _
      rw [hsac]
      rfl
    have hrequest : ∀ c, (s.refreshTick.arb c).fill = (s.arb c).fill.map (requestRestarted s.fill g) := fun c =>
      congrArg Arbiter.fill (hafter c)
    refine ⟨_, next_happen hrest, overrunShown_of_reported hu hsac (hrestart.mono (by grind)) ht, ?_, ?_,
      fun c => congrArg (fun a : Arbiter => { a with fill := none }) (hafter c), fun c hc => ?_, ?_⟩
    · rw [ht .fill (by simp [allBanks, allArbs])]
      show (u.sacrifice g).fill = fillRestarted s.fill s.fillInFlight
      rw [hsac, ← hu.fillInFlight, ← hfill, ← hfill']
      rfl
    · rw [hrequest, ← fillSegmentBase_zero]
      rfl
    · rw [hrequest, hlone c hc, Option.map_none]
    · exact ((hu.frame.mono (by grind)).andThen hover (by grind)).andThen ht (by grind)

end Sys2Proof.Machine
end

section
-- One thread at a time: the stack of each thread counts against the memory limit of the check.
set_option Elab.async false
/-! SUPPORT. Proofs/GrantOrder.lean: the grant order, what a granted or a lapsed request leaves, and BANK_GRANT as a command. -/

namespace Sys2Proof.Machine

/-! ### The urgency of the REFRESH request (R51, R52) -/

theorem urgencyOf_urgent_iff (x : Int) : urgencyOf x = .urgent ↔ 7 ≤ x := by
  unfold urgencyOf
  split_ifs <;> simp <;> omega

theorem urgencyOf_normal_iff (x : Int) : urgencyOf x = .normal ↔ 5 ≤ x ∧ x ≤ 6 := by
  unfold urgencyOf
  split_ifs <;> simp <;> omega

theorem urgencyOf_background_iff (x : Int) : urgencyOf x = .background ↔ 1 ≤ x ∧ x ≤ 4 := by
  unfold urgencyOf
  split_ifs <;> simp <;> omega

theorem urgencyOf_opportunistic_iff (x : Int) : urgencyOf x = .opportunistic ↔ -3 ≤ x ∧ x ≤ 0 := by
  unfold urgencyOf
  split_ifs <;> simp <;> omega

section
variable {s : State} {b : BankNo}

/-- At a READY and free bank the urgency is that of the balance. -/
theorem State.refreshRequest_free (h : s.isFree b = true) : s.refreshRequest b = urgencyOf (s.account b).balance := by
  simp only [State.isFree, Bool.and_eq_true, Option.isNone_iff_eq_none] at h
  simp [State.refreshRequest, State.refreshing, State.urgency, h.1, h.2]

/-- At −4 and below there is no REFRESH request (R51). -/
theorem State.refreshAlone_exhausted (h : (s.account b).balance ≤ -4) : s.refreshAlone b = false := by
  have hnone : s.refreshRequest b = .none := by
    simp only [State.refreshRequest, State.urgency, urgencyOf, if_pos h, ite_self]
  simp only [State.refreshAlone, hnone]

/-- Up to a balance of 0 REFRESH does not go alone where a row is open (R70). -/
theorem State.refreshAlone_rowOpen (hfree : s.isFree b = true) (h : (s.account b).balance ≤ 0)
    (hrow : (s.bank b).openRow ≠ none) : s.refreshAlone b = false := by
  by_cases hlow : (s.account b).balance ≤ -4
  · exact State.refreshAlone_exhausted hlow
  · have hopp : s.refreshRequest b = .opportunistic :=
      (State.refreshRequest_free hfree).trans ((urgencyOf_opportunistic_iff _).2 ⟨by omega, h⟩)
    simp only [State.refreshAlone, hopp, Option.isNone_eq_false_iff, Option.isSome_iff_ne_none]
    exact hrow

/-! ### Who wins (R66, R67, R70) -/

theorem State.normalPending_eq (p : Fin 6) :
    s.normalPending b p = if p = 5 then s.refreshRequest b == .normal else (s.pendingAt b (requesterAt p)).isSome := by
  fin_cases p <;> rfl

/-- A page hit is pending, and not at the position of REFRESH (R67). -/
theorem State.normalPending_of_hit {p : Fin 6} (h : s.normalHit b p = true) : s.normalPending b p = true := by
  obtain ⟨q, hq, -⟩ := (Option.any_eq_true _ _).1 h
  have hp : p ≠ 5 := by
    rintro rfl
    cases hq
  rw [State.normalPending_eq, if_neg hp, hq, Option.isSome_some]

/-- Without a NORMAL request that class has no winner. -/
theorem State.normalWinner_none (h : ∀ p, s.normalPending b p = false) : s.normalWinner b = none := by
  have hhit : ∀ p, s.normalHit b p = false := fun p =>
    Bool.eq_false_iff.2 fun hp => absurd (State.normalPending_of_hit hp) (by simp [h])
  simp [State.normalWinner, h, hhit]

theorem State.candidates_nil_iff :
    s.candidates b = [] ↔ (∀ r, s.pendingAt b r = none) ∧ s.refreshAlone b = false := by
  have hall : (∀ r ∈ otherRequesters, s.pendingAt b r = none) ↔ ∀ r, s.pendingAt b r = none := by
    refine ⟨fun h r => ?_, fun h r _ => h r⟩
    cases r with
    | refresh => rfl
    | ch n => exact h _ (by fin_cases n <;> decide)
    | _ => exact h _ (by decide)
  simp [State.candidates, List.filter_eq_nil_iff, hall]

/-- No request but that of REFRESH is pending. -/
theorem State.noRequests_iff : s.noRequests b ↔ ∀ r, s.pendingAt b r = none := by
  refine ⟨fun ⟨hhost, hch, hfill, hscrub⟩ r => ?_, fun h => ⟨h .host, fun n => h (.ch n), h .fill, h .scrub⟩⟩
  cases r with
  | refresh => rfl
  | host => exact hhost
  | ch n => exact hch n
  | fill => exact hfill
  | scrub => exact hscrub

/-- With no other request pending, REFRESH is decided by its class alone (R70). -/
theorem State.orderWinner_noRequests (h : s.noRequests b) : s.orderWinner b =
    match s.refreshRequest b with
    | .urgent => some (.refresh, .byRank)
    | .normal => some (.refresh, .byRotation)
    | .background => some (.refresh, .byRank)
    | .opportunistic => if (s.bank b).openRow = none then some (.refresh, .byRank) else none
    | .none => none := by
  obtain ⟨hhost, hch, hfill, hscrub⟩ := id h
  have hpend : ∀ p, s.normalPending b p = decide (p = 5 ∧ s.refreshRequest b = .normal) := fun p => by
    rw [State.normalPending_eq, State.noRequests_iff.1 h]
    by_cases hp : p = 5 <;> simp [hp, beq_eq_decide]
  have hhit : ∀ p, s.normalHit b p = false := fun p => by simp [State.normalHit, State.noRequests_iff.1 h]
  have hother : s.otherPending b = false := by simp [State.otherPending, hhost, hch, hfill, hscrub]
  by_cases hnormal : s.refreshRequest b = .normal
  · have hwin : s.normalWinner b = some (5, .byRotation) := by
      simp only [State.normalWinner, hhit, List.any_eq_true, Bool.false_eq_true, and_false, exists_false, if_false]
      rw [find?_searchAfter (x := 5) _ (by simp [hpend, hnormal]) (by simp [hpend])]
      rfl
    simp [State.orderWinner, hnormal, hhost, hwin, requesterAt]
  · have hwin : s.normalWinner b = none := State.normalWinner_none (by simp [hpend, hnormal])
    simp only [State.orderWinner, hhost, hwin, hscrub, hother]
    cases hr : s.refreshRequest b <;> simp_all

/-- A bank with no candidate has no winner. -/
theorem State.winner_none (h : s.candidates b = []) : s.winner b = none := by
  obtain ⟨hpend, halone⟩ := State.candidates_nil_iff.1 h
  have hfew : decide (2 ≤ (s.candidates b).length) = false := by simp [h]
  simp only [State.winner, hfew, Bool.and_false, Bool.false_eq_true, if_false,
    State.orderWinner_noRequests (State.noRequests_iff.2 hpend)]
  unfold State.refreshAlone at halone
  split at halone <;> simp_all [Option.isSome_iff_ne_none]

theorem State.grantDue_none (h : s.candidates b = []) : s.grantDue b = false := by
  simp [State.grantDue, State.winner_none h]

/-- Below urgent REFRESH the HOST request goes first (R66). -/
theorem State.orderWinner_host {q : Request} (hfree : s.isFree b = true) (h6 : (s.account b).balance ≤ 6)
    (hq : (s.arb b).host = some q) : s.orderWinner b = some (.host, .byRank) := by
  have hurgent : s.refreshRequest b ≠ .urgent := by
    rw [State.refreshRequest_free hfree, ne_eq, urgencyOf_urgent_iff]
    omega
  simp [State.orderWinner, hurgent, hq]

/-- The scrubber's request, alone beside REFRESH at BACKGROUND or less, goes (R66). -/
theorem State.orderWinner_scrub {q : Request} (h4 : (s.account b).balance ≤ 4) (h : s.solePending b .scrub q) :
    s.orderWinner b = some (.scrub, .byRank) := by
  obtain ⟨hurgent, hnormal⟩ := State.refreshRequest_low h4
  have hhost : (s.arb b).host = none := State.solePending_none h (r' := .host) (by simp)
  have hscrub : (s.arb b).scrub = some q := h.1
  have hpend : ∀ p, s.normalPending b p = false := fun p => by
    have hr : requesterAt p ≠ .scrub := by
      revert p
      decide
    rw [State.normalPending_eq, State.solePending_none h hr]
    simp [hnormal]
  simp [State.orderWinner, hurgent, hhost, State.normalWinner_none hpend, hscrub]

/-- A request that stands alone, REFRESH at BACKGROUND or less, is the winner where its requester is no fill engine. -/
theorem State.winner_sole {r : Requester} {q : Request} (hd : s.decides b) (h4 : (s.account b).balance ≤ 4)
    (h : s.solePending b r q) (hr : r ≠ .fill) : ∃ how, s.winner b = some (r, how) := by
  obtain ⟨-, hfree, -, -, -, hmet⟩ := hd
  cases r with
  | refresh => exact absurd h.1 (by simp [State.pendingAt])
  | host => exact ⟨_, (s.winner_of_not_met b hmet).trans (State.orderWinner_host hfree (by omega) h.1)⟩
  | ch n => exact ⟨_, State.winner_lone h h4 hmet⟩
  | fill => exact absurd rfl hr
  | scrub => exact ⟨_, (s.winner_of_not_met b hmet).trans (State.orderWinner_scrub h4 h)⟩

/-! ### BANK_GRANT (R64, R71, R72) -/

theorem State.grantDue_of_winner {x : Requester × Picked} (hd : s.decides b) (h : s.winner b = some x) :
    s.grantDue b = true := by
  obtain ⟨-, hfree, hoff, horder, hread, -⟩ := hd
  simp [State.grantDue, hfree, hoff, horder, hread, h]

/-- A bank with a decision to make had candidates, so nothing has met there since; nor has anything where arbiter, bank and
account stay (R65). -/
theorem State.meet_of_grantDue {t : State} {ps : List Part} (hdue : s.grantDue b = true) (hf : unchangedBut ps s t)
    (hps : ∀ c, c ≠ b → Part.arb c ∉ ps ∧ Part.bank c ∉ ps ∧ Part.account c ∉ ps) : s.meet t = t := by
  refine s.meet_of_none t fun c => ?_
  by_cases hc : c = b
  · subst hc
    cases hcand : s.candidates c with
    | nil => exact absurd hdue (by simp [State.grantDue_none hcand])
    | cons x l => simp [State.meetsAt, hcand]
  · obtain ⟨ha, hk, hr⟩ := hps c hc
    exact State.meetsAt_congr (hf _ ha) (hf _ hk) (hf _ hr)

/-- BANK_GRANT when a decision is due: the decisions of the bank, no other bank being touched. -/
theorem exec_bankGrant {t : State} {ps : List Part} (hreset : s.resetAsserted = false) (hdue : s.grantDue b = true)
    (hg : s.grants b 16 = t) (hf : unchangedBut ps s t)
    (hps : ∀ c, c ≠ b → Part.arb c ∉ ps ∧ Part.bank c ∉ ps ∧ Part.account c ∉ ps) : exec (.bankGrant b) s = .next t := by
  have hown : s.ownDue (.bankGrant b) = true := by simp [State.ownDue, hreset, hdue]
  rw [show exec (.bankGrant b) s = .next (s.ownIfDue (.bankGrant b)) from rfl, next_ownIfDue hown]
  rw [show s.ownStep (.bankGrant b) = s.meet (s.grants b 16) from rfl, hg, State.meet_of_grantDue hdue hf hps]

/-- BANK_GRANT when no decision is due. -/
theorem exec_bankGrant_none (h : s.grantDue b = false) : exec (.bankGrant b) s = .next s := by
  have hown : s.ownDue (.bankGrant b) = false := by simp [State.ownDue, h]
  rw [show exec (.bankGrant b) s = .next (s.ownIfDue (.bankGrant b)) from rfl, State.ownIfDue, hown]
  rfl

theorem State.grants_refresh {how : Picked} {fuel : Nat} (hdue : s.grantDue b = true) (hwin : s.winner b = some (.refresh, how)) :
    s.grants b (fuel + 1) = (s.parted b).beginRefresh b how := by
  rw [State.grants, if_pos hdue, hwin]

/-- The winner's request begins when its target passes, and lapses when not; then the bank decides again. -/
theorem State.grants_request {r : Requester} {how : Picked} {q : Request} {fuel : Nat} (hdue : s.grantDue b = true)
    (hwin : s.winner b = some (r, how)) (hq : s.pendingAt b r = some q) : s.grants b (fuel + 1) =
      if s.grantCheck b r q then (s.parted b).beginGranted b r how q
      else (((s.parted b).takeRequest b r).lapsed r q).grants b fuel := by
  rw [State.grants, if_pos hdue, hwin]
  cases r with
  | refresh => cases hq
  | _ => simp only [hq]

/-- A target outside the fill engine passes exactly when its group is KEEP, the bank being READY (R24). -/
theorem State.grantCheck_eq {r : Requester} {q : Request} (hr : r ≠ .fill) (hready : s.isReady b = true) :
    s.grantCheck b r q = ((s.group (groupOf q.addr)).state == .keep) := by
  cases r with
  | fill => exact absurd rfl hr
  | _ => simp [State.grantCheck, hready]

/-! ### REFRESH begins (R17, R53, R68, R69) -/

/-- The arbiter after a grant of REFRESH: a rotation decision leaves the rotation at REFRESH. -/
def refreshedArb (how : Picked) (a : Arbiter) : Arbiter :=
  { a with streak := 0, rotPos := if how = .byRotation then 5 else a.rotPos }

/-- Bank `b` has begun a REFRESH of the group at the cursor. -/
def refreshBegun (s t : State) (b : BankNo) : Prop :=
  ∃ o, o.kind = .refresh ∧ o.addr = groupBase (s.cursorGroup b) ∧ o.timing = s.timing ∧ o.elapsed = 0 ∧
    t.bank b = { s.bank b with openRow := none, holdTimer := none, op := some o }

theorem State.beginRefresh_frame (how : Picked) : unchangedBut [.bank b, .arb b] s (s.beginRefresh b how) :=
  ((s.countGrant_frame b .refresh how false).mono (by simp)).andThen (State.startClosed_frame _ b _ _) (by simp)

theorem State.beginRefresh_begun (how : Picked) : refreshBegun s (s.beginRefresh b how) b := by
  have hu := s.countGrant_frame b .refresh how false
  refine ⟨(s.countGrant b .refresh how false).newOp b .refresh (groupBase (s.cursorGroup b)) 0 [], rfl, rfl,
    hu .timing (by simp), rfl, ?_⟩
  rw [State.beginRefresh, State.startClosed_bank, hu (.bank b) (by simp)]

theorem State.beginRefresh_arb {how : Picked} (h : how ≠ .byHit) :
    (s.beginRefresh b how).arb b = refreshedArb how (s.arb b) := by
  have hclose : ∀ k, afterClose k (refreshedArb how (s.arb b)) = refreshedArb how (s.arb b) := fun k => by
    unfold afterClose
    split <;> rfl
  have hcount : (s.countGrant b .refresh how false).arb b = refreshedArb how (s.arb b) := by
    cases how with
    | byHit => exact absurd rfl h
    | _ => exact (State.setArb_arb s b b _).trans (if_pos rfl)
  rw [State.beginRefresh, State.startClosed_arb, hcount, hclose]

theorem grant_refresh {how : Picked} (hd : s.decides b) (hhow : how ≠ .byHit) (hwin : s.orderWinner b = some (.refresh, how)) :
    ∃ t, exec (.bankGrant b) s = .next t ∧ refreshBegun s t b ∧ t.arb b = refreshedArb how (s.arb b) ∧
      unchangedBut [.bank b, .arb b] s t := by
  obtain ⟨hreset, -, -, -, -, hmet⟩ := id hd
  have hwin' := (s.winner_of_not_met b hmet).trans hwin
  have hdue := State.grantDue_of_winner hd hwin'
  have hg : s.grants b 16 = s.beginRefresh b how := by rw [State.grants_refresh hdue hwin', s.parted_of_not_met b hmet]
  exact ⟨_, exec_bankGrant hreset hdue hg (State.beginRefresh_frame how) (by simp +contextual), State.beginRefresh_begun how,
    State.beginRefresh_arb hhow, State.beginRefresh_frame how⟩

/-! ### A request granted by its rank: the host's, the scrubber's (R69, R71) -/

/-- A column operation that begins on a state that differs in the arbiter alone is one begun at that bank. -/
theorem begun_of_startColumn {u : State} {q : Request} {x : List Stored} (hu : unchangedBut [.arb b] s u) :
    begun s (u.startColumn b q.kind q.addr q.words x) b q x := by
  have hconfig : u.config = s.config := hu .config (by simp)
  have htiming : u.timing = s.timing := hu .timing (by simp)
  refine ⟨u.newOp b q.kind q.addr q.words x, ?_, rfl, rfl, rfl, rfl, congrArg ConfigReg.cwb hconfig, htiming, rfl, rfl⟩
  rw [State.startColumn, State.setBank_bank, if_pos rfl, hu (.bank b) (by simp)]

/-- The request `q` of `r`, taken and counted as one that wins by its rank. -/
def State.rankCounted (s : State) (b : BankNo) (r : Requester) (q : Request) : State :=
  (s.takeRequest b r).countGrant b r .byRank (s.isHit b q)

/-- Its operation has begun, the requester not told yet. -/
def State.rankBegun (s : State) (b : BankNo) (r : Requester) (q : Request) : State :=
  (s.rankCounted b r q).startColumn b q.kind q.addr q.words (s.grantPayload q)

section
variable {r : Requester} {q : Request}

theorem State.rankCounted_frame : unchangedBut [.arb b] s (s.rankCounted b r q) :=
  (s.takeRequest_frame b r).trans (State.countGrant_frame _ b r _ _)

theorem State.rankBegun_begun : begun s (s.rankBegun b r q) b q (s.grantPayload q) :=
  begun_of_startColumn State.rankCounted_frame

theorem State.rankBegun_frame : unchangedBut [.bank b, .arb b] s (s.rankBegun b r q) :=
  (State.rankCounted_frame.mono (by simp)).andThen (State.setBank_frame _ b _) (by simp)

theorem State.rankBegun_arb : (s.rankBegun b r q).arb b = { withoutRequest r (s.arb b) with streak := s.streakAfter b q } := by
  have hcount : (s.rankBegun b r q).arb b = { (s.takeRequest b r).arb b with
      streak := if s.isHit b q then min Config.streakCap (((s.takeRequest b r).arb b).streak + 1) else 0 } :=
    (State.setArb_arb _ b b _).trans (if_pos rfl)
  have hstreak : (withoutRequest r (s.arb b)).streak = (s.arb b).streak := by cases r <;> rfl
  rw [hcount, State.takeRequest_arb, hstreak, State.streakAfter, State.isHit]
  simp only [beq_iff_eq, Config.streakCap]

/-- The decision for a request that wins by its rank and whose target passes. -/
theorem State.grants_rank (hd : s.decides b) (hr : r ≠ .fill) (hwin : s.orderWinner b = some (r, .byRank))
    (hq : s.pendingAt b r = some q) (hkeep : (s.group (groupOf q.addr)).state = .keep) :
    s.grantDue b = true ∧ s.grants b 16 = (s.rankBegun b r q).granted r q := by
  obtain ⟨-, -, -, -, -, hmet⟩ := id hd
  have hwin' := (s.winner_of_not_met b hmet).trans hwin
  have hdue := State.grantDue_of_winner hd hwin'
  have hcheck : s.grantCheck b r q = true := by
    rw [State.grantCheck_eq hr (State.ready_of_grantDue hdue), hkeep]
    rfl
  refine ⟨hdue, ?_⟩
  rw [State.grants_request hdue hwin' hq, if_pos hcheck, s.parted_of_not_met b hmet]
  rfl

end

/-- The grant of a HOST request, beside which no queue head has to be placed again (R66, R101). -/
theorem grant_host {q : Request} (hd : s.decides b) (h6 : (s.account b).balance ≤ 6) (hq : (s.arb b).host = some q)
    (hkeep : (s.group (groupOf q.addr)).state = .keep) (halone : q.kind ≠ .hostRead ∨ s.host.queue = []) :
    ∃ t, exec (.bankGrant b) s = .next t ∧ begun s t b q (s.grantPayload q) ∧
      t.arb b = { s.arb b with host := none, streak := s.streakAfter b q } ∧ unchangedBut [.bank b, .arb b] s t := by
  obtain ⟨hreset, hfree, -⟩ := id hd
  obtain ⟨hdue, hgrants⟩ := State.grants_rank hd (by simp) (State.orderWinner_host hfree h6 hq) hq hkeep
  have hframe : unchangedBut [.bank b, .arb b] s (s.rankBegun b .host q) := State.rankBegun_frame
  have hgranted : (s.rankBegun b .host q).granted .host q = s.rankBegun b .host q := by
    simp only [State.granted]
    split
    · rename_i hk
      exact State.placeHead_nil _ ((congrArg HostPort.queue (hframe .host (by simp))).trans (halone.resolve_left (by simp [hk])))
    · rfl
  exact ⟨_, exec_bankGrant hreset hdue (hgrants.trans hgranted) hframe (by simp +contextual), State.rankBegun_begun,
    State.rankBegun_arb, hframe⟩

/-- The words a HOST request stores: none for a read or a MERGE, and for a WRITE the word of the queue's head (R80, R89). -/
theorem State.grantPayload_hostWrite {q : Request} {e : HostEntry} {rest : List HostEntry} (hk : q.kind = .hostWrite)
    (hq : s.host.queue = e :: rest) :
    s.grantPayload q = [{ data := e.data, check := e.mark.getD (checkBitsOf e.data) }] := by
  have hstored : e.stored = { data := e.data, check := e.mark.getD (checkBitsOf e.data) } := by
    unfold HostEntry.stored
    split <;> simp_all [encodeWord]
  simp [State.grantPayload, hk, hq, hstored]

theorem State.grantPayload_none {q : Request} (hk : q.kind = .hostRead ∨ q.kind = .hostMerge ∨ q.kind = .scrubSegment) :
    s.grantPayload q = [] := by
  rcases hk with hk | hk | hk <;> simp [State.grantPayload, hk]

/-- The grant of a lone SCRUB request (R93). -/
theorem grant_scrub {q : Request} (hd : s.decides b) (h4 : (s.account b).balance ≤ 4) (h : s.solePending b .scrub q)
    (hkeep : (s.group (groupOf q.addr)).state = .keep) :
    ∃ t, exec (.bankGrant b) s = .next t ∧ begun s t b q (s.grantPayload q) ∧
      t.scrub = { s.scrub with credits := s.scrub.credits - 1, state := .active } ∧
      t.arb b = { s.arb b with scrub := none, streak := s.streakAfter b q } ∧ unchangedBut [.bank b, .arb b, .scrub] s t := by
  obtain ⟨hreset, -⟩ := id hd
  obtain ⟨hdue, hgrants⟩ := State.grants_rank hd (by simp) (State.orderWinner_scrub h4 h) h.1 hkeep
  have hframe : unchangedBut [.bank b, .arb b] s (s.rankBegun b .scrub q) := State.rankBegun_frame
  have hscrub : (s.rankBegun b .scrub q).scrub = s.scrub := hframe .scrub (by simp)
  have hall : unchangedBut [.bank b, .arb b, .scrub] s ((s.rankBegun b .scrub q).granted .scrub q) :=
    (hframe.mono (by simp)).andThen (State.withScrub_frame _ _) (by simp)
  refine ⟨_, exec_bankGrant hreset hdue hgrants hall (by simp +contextual), State.rankBegun_begun, ?_, State.rankBegun_arb, hall⟩
  rw [← hscrub]
  rfl

/-! ### A grant that lapses (R72) -/

section
variable {r : Requester} {q : Request}

/-- A host read ends with HERR (R101). -/
theorem State.lapsed_read (hk : q.kind = .hostRead) (hq : s.host.queue = []) :
    turnedAway s (s.lapsed .host q) .host q .groupState [] := by
  have he : s.lapsed .host q = s.endCycle .error := by
    simp only [State.lapsed, hk, if_true]
    exact State.placeHead_nil _ hq
  rw [he]
  simp only [turnedAway, hk, if_true]
  exact ⟨rfl, s.endCycle_frame _⟩

/-- The part after its only queue entry `e` has left with a WRITE_FAILED record (R105). -/
def State.headLapsed (s : State) (e : HostEntry) : State :=
  { s with host := { s.host with queue := [] }, log := logged s.log (writeFailedFinding e.addr .groupState) }

theorem State.headLapsed_frame (e : HostEntry) : unchangedBut [.host, .log] s (s.headLapsed e) :=
  ((s.withHost_frame { s.host with queue := [] }).mono (by simp)).andThen (State.withLog_frame _ _) (by simp)

theorem headRequest_kind_ne_hostRead (e : HostEntry) : (headRequest e).kind ≠ .hostRead := by
  unfold headRequest
  split <;> simp

theorem State.lapsed_head {e : HostEntry} (hq : s.host.queue = [e]) (hl : s.log.records.length < 8) :
    turnedAway s (s.lapsed .host (headRequest e)) .host (headRequest e) .groupState [] := by
  have hk := headRequest_kind_ne_hostRead e
  have hfail : s.failHead .groupState = s.headLapsed e := by
    simp only [State.failHead, hq]
    exact State.hand_eq_logged _ _ (coalesces_of_kind_ne _ _ (by simp [writeFailedFinding])) hl
  have he : s.lapsed .host (headRequest e) = s.headLapsed e := by
    simp only [State.lapsed, hk, if_false, hfail]
    exact State.placeHead_nil _ rfl
  rw [he]
  simp only [turnedAway, hk, if_false]
  exact ⟨rfl, rfl, State.headLapsed_frame e⟩

/-- The part after channel `n` has halted over the request `q` (R145, R146). -/
def State.chanLapsed (s : State) (n : ChanNo) (q : Request) : State :=
  State.raise { s.setChan n (haltedChan (s.chan n) (turnedFault n q.kind .groupState)) with
    log := logged s.log (channelFinding n (turnedFault n q.kind .groupState) (s.chan n).desc
      (if q.kind.isData then some q.addr else none)) } (.stop n)

theorem State.chanLapsed_frame (n : ChanNo) : unchangedBut [.chan n, .log, .events] s (s.chanLapsed n q) :=
  (((s.setChan_frame n _).mono (by simp)).andThen (State.withLog_frame _ _) (by simp)).andThen (State.raise_frame _ _) (by simp)

theorem State.lapsed_chan {n : ChanNo} (hk : q.kind.channel = some n) (hnone : ∀ c, (s.arb c).ch.get n = none)
    (hop : s.chanOp n (fun _ => true) = false) (hbeat : s.beatOf n = false) (hl : s.log.records.length < 8) :
    turnedAway s (s.lapsed (.ch n) q) (.ch n) q .groupState [] := by
  have he : s.lapsed (.ch n) q = s.chanLapsed n q := by
    rw [show s.lapsed (.ch n) q = s.failChan n q .groupState from rfl, State.failChan_eq _ _ _ _ hk,
      State.haltChan_lone _ n _ _ hnone hop hbeat,
      State.hand_eq_logged _ _ (coalesces_of_kind_ne _ _ (by simp [channelFinding])) (by exact hl)]
    rfl
  rw [he]
  exact ⟨(State.setChan_chan s n n _).trans (if_pos rfl), rfl, rfl, State.chanLapsed_frame n⟩

theorem State.nextScrubRow_credits (s : State) : s.nextScrubRow.scrub.credits = s.scrub.credits := by
  unfold State.nextScrubRow
  dsimp only
  split
  · split <;> rfl
  · rfl

/-- The scrubber, with no credit left, passes on and rests (R93). -/
theorem State.lapsed_scrub (hc : s.scrub.credits = 0) : turnedAway s (s.lapsed .scrub q) .scrub q .groupState [] := by
  have he : s.lapsed .scrub q = s.nextScrubRow.setScrub .idle :=
    State.searchScrub_of_no_credit _ (s.nextScrubRow_credits.trans hc)
  rw [he]
  refine ⟨fun hrow => ?_, fun hrow hbank => ?_, fun hrow hbank => ?_,
    s.nextScrubRow_frame.andThen (State.withScrub_frame _ _) (by simp)⟩
  · simp [State.setScrub, State.nextScrubRow, hrow]
  · simp [State.setScrub, State.nextScrubRow, hrow, hbank]
  · simp [State.setScrub, State.nextScrubRow, State.countPass, hrow, hbank]

/-- The request leaves its arbiter, streak count and positions as they were, and the requester is turned away. -/
theorem State.lapsed_turnedAway (hfree : s.isFree b = true) (hm : s.mayBeTurnedAway b r q) :
    ((s.takeRequest b r).lapsed r q).arb b = withoutRequest r (s.arb b) ∧
      turnedAway s ((s.takeRequest b r).lapsed r q) r q .groupState [.arb b] := by
  have htake := s.takeRequest_frame b r
  have harb : (s.takeRequest b r).arb b = withoutRequest r (s.arb b) := State.takeRequest_arb
  generalize s.takeRequest b r = u at htake harb
  have hidle : (u.bank b).op = none := by
    simp only [State.isFree, Bool.and_eq_true, Option.isNone_iff_eq_none] at hfree
    rw [htake (.bank b) (by simp)]
    exact hfree.2
  obtain ⟨hl, hwho⟩ := mayBeTurnedAway_of_frame hm (htake.mono (by simp)) (by simp [hidle])
  have hturn : turnedAway u (u.lapsed r q) r q .groupState [] := by
    cases r with
    | refresh | fill => exact hwho.elim
    | host =>
      rcases hwho with ⟨hk, hq⟩ | ⟨e, hq, rfl⟩
      · exact State.lapsed_read hk hq
      · exact State.lapsed_head hq hl
    | ch n =>
      obtain ⟨hk, hop, hbeat, hothers⟩ := hwho
      refine State.lapsed_chan hk (fun c => ?_) hop hbeat hl
      by_cases hc : c = b
      · simp [hc, harb, withoutRequest]
      · exact hothers c hc
    | scrub => exact State.lapsed_scrub hwho
  exact ⟨(turnedAway_frame hturn (.arb b) (by simp [allChans])).trans harb,
    turnedAway_within hturn htake (.refl _ _) (by simp) (by simp)⟩

end

/-- The only request taken, none is left. -/
theorem State.pendingAt_withoutRequest {t : State} {r : Requester} {q : Request} (h : s.solePending b r q)
    (ha : t.arb b = withoutRequest r (s.arb b)) (r' : Requester) : t.pendingAt b r' = none := by
  have hs : ∀ x, x ≠ r → s.pendingAt b x = none := fun x hx => State.solePending_none h hx
  by_cases hr : r' = r
  · subst hr
    cases r' <;> simp [State.pendingAt, ha, withoutRequest]
  · rw [← hs r' hr]
    cases r <;> cases r' <;> simp_all [State.pendingAt, withoutRequest, Four.get_set_ne]

/-- BANK_GRANT of a request alone whose group is not KEEP, with no REFRESH request beside it. -/
theorem grant_lapses {r : Requester} {q : Request} (hd : s.decides b) (hlow : (s.account b).balance ≤ -4)
    (h : s.solePending b r q) (hm : s.mayBeTurnedAway b r q) (hlost : (s.group (groupOf q.addr)).state ≠ .keep) :
    ∃ t, exec (.bankGrant b) s = .next t ∧ t.arb b = withoutRequest r (s.arb b) ∧ turnedAway s t r q .groupState [.arb b] := by
  obtain ⟨hreset, hfree, -, -, -, hmet⟩ := id hd
  obtain ⟨-, hwho⟩ := id hm
  have hr : r ≠ .fill := by
    rintro rfl
    exact hwho
  obtain ⟨how, hwin⟩ := State.winner_sole hd (by omega) h hr
  have hdue := State.grantDue_of_winner hd hwin
  have hcheck : ¬ s.grantCheck b r q = true := by
    rw [State.grantCheck_eq hr (State.ready_of_grantDue hdue)]
    simpa using hlost
  obtain ⟨harb, hturn⟩ := State.lapsed_turnedAway hfree hm
  have hframe := turnedAway_frame hturn
  have hnone : ((s.takeRequest b r).lapsed r q).candidates b = [] :=
    State.candidates_nil_iff.2 ⟨State.pendingAt_withoutRequest h harb, State.refreshAlone_exhausted (by
      rw [hframe (.account b) (by simp [allChans])]
      exact hlow)⟩
  have hg : s.grants b 16 = (s.takeRequest b r).lapsed r q := by
    rw [State.grants_request hdue hwin h.1, if_neg hcheck, s.parted_of_not_met b hmet,
      State.grants_of_not_due _ b _ (State.grantDue_none hnone)]
  exact ⟨_, exec_bankGrant hreset hdue hg hframe (by simp +contextual [allChans]), harb, hturn⟩

end

/-- Settles O15: each clause names the winner, then what its grant, or its lapse, leaves. -/
theorem grantRanksRefreshThenHost : Obligations.GrantRanksRefreshThenHost := by
  intro s b hd
  obtain ⟨-, hfree, -⟩ := id hd
  have hrefresh := State.refreshRequest_free hfree
  refine ⟨fun h7 => ?_, fun q h6 hq hkeep halone => ?_, fun hn hlow h6 => ⟨fun hgo => ?_, fun h0 hrow => ?_⟩,
    fun q h4 h hkeep => ?_, fun r q hlow h hm hlost => grant_lapses hd hlow h hm hlost⟩
  · have hurgent : s.refreshRequest b = .urgent := hrefresh.trans ((urgencyOf_urgent_iff _).2 h7)
    exact grant_refresh (how := .byRank) hd (by simp) (if_pos hurgent)
  · obtain ⟨t, ht, hbegun, harb, hframe⟩ := grant_host hd h6 hq hkeep halone
    exact ⟨t, _, ht, hbegun, fun hk => State.grantPayload_none (hk.imp_right .inl),
      fun e rest hk hqueue => State.grantPayload_hostWrite hk hqueue, harb, hframe⟩
  · have hwin := State.orderWinner_noRequests hn
    rw [hrefresh] at hwin
    by_cases h5 : 5 ≤ (s.account b).balance
    · rw [(urgencyOf_normal_iff _).2 ⟨h5, h6⟩] at hwin
      obtain ⟨t, ht, hbegun, harb, hframe⟩ := grant_refresh hd (by simp) hwin
      exact ⟨t, ht, hbegun, by rw [harb, if_pos h5]; rfl, hframe⟩
    · have hrank : s.orderWinner b = some (.refresh, .byRank) := by
        by_cases h1 : 1 ≤ (s.account b).balance
        · rwa [(urgencyOf_background_iff _).2 ⟨h1, by omega⟩] at hwin
        · rw [(urgencyOf_opportunistic_iff _).2 ⟨hlow, by omega⟩] at hwin
          rw [hwin, if_pos (hgo.resolve_left h1)]
      obtain ⟨t, ht, hbegun, harb, hframe⟩ := grant_refresh hd (by simp) hrank
      exact ⟨t, ht, hbegun, by rw [harb, if_neg h5]; rfl, hframe⟩
  · exact exec_bankGrant_none (State.grantDue_none (State.candidates_nil_iff.2
      ⟨State.noRequests_iff.1 hn, State.refreshAlone_rowOpen hfree h0 hrow⟩))
  · obtain ⟨t, ht, hbegun, hscrub, harb, hframe⟩ := grant_scrub hd h4 h hkeep
    exact ⟨t, ht, fun hk => State.grantPayload_none (.inr (.inr hk)) ▸ hbegun, hscrub, harb, hframe⟩

end Sys2Proof.Machine
end

section
-- One thread at a time: the stack of each thread counts against the memory limit of the check.
set_option Elab.async false
/-! SUPPORT. Proofs/StreakCap.lean: two channels ask at one bank, one of them with a page hit. -/

namespace Sys2Proof.Machine

/-! ### The two requests (R67) -/

/-- At bank `b` the page hit `q` of channel `n` and the request `r` of channel `m`, none, are pending; beside them at most a SCRUB
request and REFRESH at BACKGROUND. -/
structure rivals (s : State) (b : BankNo) (n m : ChanNo) (q r : Request) : Prop where
  ne : n ≠ m
  host : (s.arb b).host = none
  fill : (s.arb b).fill = none
  others : ∀ k, k ≠ n → k ≠ m → (s.arb b).ch.get k = none
  first : (s.arb b).ch.get n = some q
  second : (s.arb b).ch.get m = some r
  hit : (s.bank b).openRow = some (rowOf q.addr)
  miss : (s.bank b).openRow ≠ some (rowOf r.addr)
  low : (s.account b).balance ≤ 4

theorem requesterAt_ch_iff (p : Fin 6) (k : ChanNo) : requesterAt p = .ch k ↔ p = positionOf (.ch k) :=
  ⟨eq_positionOf_ch, fun h => h ▸ requesterAt_positionOf_ch k⟩

theorem positionOf_ch_inj {n m : ChanNo} (h : positionOf (.ch n) = positionOf (.ch m)) : n = m := by
  revert n m
  decide

/-- From a position where the only other one that qualifies is `y`, the search meets `y` first (R68). -/
theorem find?_searchAfter_other {f : Fin 6 → Bool} {x y : Fin 6} (hxy : y ≠ x) (hy : f y = true)
    (h : ∀ z, f z = true → z = x ∨ z = y) : (searchAfter x).find? f = some y := by
  have hsplit : searchAfter x = [x + 1, x + 2, x + 3, x + 4, x + 5] ++ [x] := rfl
  have hin : y ∈ [x + 1, x + 2, x + 3, x + 4, x + 5] := by
    clear hy h hsplit
    revert x y
    decide
  have hlast : x ∉ [x + 1, x + 2, x + 3, x + 4, x + 5] := by
    clear hxy hy h hsplit hin
    revert x
    decide
  obtain ⟨z, hz⟩ := Option.isSome_iff_exists.1 (List.find?_isSome.2 ⟨y, hin, hy⟩)
  have hzx : z ≠ x := by
    rintro rfl
    exact hlast (List.mem_of_find?_eq_some hz)
  rw [hsplit, List.find?_append, hz, (h z (List.find?_some hz)).resolve_left hzx]
  rfl

section
variable {s : State} {b : BankNo} {n m : ChanNo} {q r : Request}

theorem rivals.pendingAt_ch (h : rivals s b n m q r) (k : ChanNo) :
    (s.pendingAt b (.ch k)).isSome = true ↔ k = n ∨ k = m := by
  by_cases hn : k = n
  · simp [hn, State.pendingAt, h.first]
  · by_cases hm : k = m
    · simp [hm, State.pendingAt, h.second]
    · simp [hn, hm, State.pendingAt, h.others k hn hm]

theorem rivals.normalPending_iff (h : rivals s b n m q r) (p : Fin 6) :
    s.normalPending b p = true ↔ p = positionOf (.ch n) ∨ p = positionOf (.ch m) := by
  rw [← requesterAt_ch_iff, ← requesterAt_ch_iff]
  unfold State.normalPending
  cases hp : requesterAt p with
  | refresh => simpa using (State.refreshRequest_low h.low).2
  | ch k => simpa using h.pendingAt_ch k
  | fill => simp [State.pendingAt, h.fill]
  | host => exact absurd hp (requesterAt_ne_host p)
  | scrub =>
    exfalso
    revert p
    decide

theorem rivals.normalHit_iff (h : rivals s b n m q r) (p : Fin 6) :
    s.normalHit b p = true ↔ p = positionOf (.ch n) := by
  refine ⟨fun hp => ?_, fun hp => ?_⟩
  · refine ((h.normalPending_iff p).1 (State.normalPending_of_hit hp)).resolve_right fun hm => ?_
    simp [State.normalHit, hm, requesterAt_positionOf_ch, State.pendingAt, h.second, State.isHit, h.miss] at hp
  · simp [State.normalHit, hp, requesterAt_positionOf_ch, State.pendingAt, h.first, State.isHit, h.hit]

/-- The preference is lapsed exactly at a streak of 16, the request of `m` being no page hit (R67). -/
theorem rivals.capped_iff (h : rivals s b n m q r) : s.capped b = true ↔ (s.arb b).streak = 16 := by
  have hmiss : ¬ s.normalHit b (positionOf (.ch m)) = true := fun hm => h.ne (positionOf_ch_inj ((h.normalHit_iff _).1 hm)).symm
  have hany : normalPositions.any (fun p => s.normalPending b p && !s.normalHit b p) = true :=
    List.any_eq_true.2 ⟨positionOf (.ch m), mem_normalPositions _, by
      rw [(h.normalPending_iff _).2 (.inr rfl), Bool.eq_false_iff.2 hmiss]
      rfl⟩
  rw [State.capped, hany, Bool.and_true, beq_iff_eq, Config.streakCap]

/-- How each of the two is picked: the page hit by a hit decision, the other by rotation. -/
theorem rivals.pickedFor_eq (h : rivals s b n m q r) :
    s.pickedFor b q = .byHit ∧ s.pickedFor b r = .byRotation := by
  have hmiss : rowOf q.addr ≠ rowOf r.addr := by simpa [h.hit] using h.miss
  simp [State.pickedFor, State.isHit, h.hit, hmiss]

theorem rivals.orderWinner_eq (h : rivals s b n m q r) {p : Fin 6} {how : Picked} (hw : s.normalWinner b = some (p, how)) :
    s.orderWinner b = some (requesterAt p, how) := by
  rw [State.orderWinner, if_neg (State.refreshRequest_low h.low).1, h.host, hw]
  rfl

/-- Below a streak of 16 the page hit is preferred (R67). -/
theorem rivals.orderWinner_preferred (h : rivals s b n m q r) (hstreak : (s.arb b).streak < 16) :
    s.orderWinner b = some (.ch n, s.pickedFor b q) := by
  have hcap : s.capped b = false := Bool.eq_false_iff.2 fun hc => by
    have := h.capped_iff.1 hc
    omega
  have hyes : s.normalHit b (positionOf (.ch n)) = true := (h.normalHit_iff _).2 rfl
  rw [h.pickedFor_eq.1, ← requesterAt_positionOf_ch n]
  refine h.orderWinner_eq ?_
  rw [State.normalWinner, if_pos ⟨hcap, List.any_eq_true.2 ⟨_, mem_normalPositions _, hyes⟩⟩,
    find?_searchAfter _ hyes fun y hy => (h.normalHit_iff y).1 hy]
  rfl

/-- At 16 the rotation, standing at `n`, comes to `m` (R67, R68). -/
theorem rivals.orderWinner_capped (h : rivals s b n m q r) (hstreak : (s.arb b).streak = 16)
    (hrot : (s.arb b).rotPos = positionOf (.ch n)) : s.orderWinner b = some (.ch m, s.pickedFor b r) := by
  have hcap : ¬ (s.capped b = false ∧ normalPositions.any (fun p => s.normalHit b p) = true) := fun hc =>
    Bool.eq_false_iff.1 hc.1 (h.capped_iff.2 hstreak)
  rw [h.pickedFor_eq.2, ← requesterAt_positionOf_ch m]
  refine h.orderWinner_eq ?_
  rw [State.normalWinner, if_neg hcap, hrot,
    find?_searchAfter_other (y := positionOf (.ch m)) (fun hp => h.ne (positionOf_ch_inj hp).symm)
      ((h.normalPending_iff _).2 (.inr rfl)) fun z hz => (h.normalPending_iff z).1 hz]
  rfl

/-! ### Requests that reach the bank together (R65) -/

/-- Of requests that have met, one of those pending is taken first, as one that stands alone. -/
theorem State.winner_met (hmet : (s.arb b).met = true) (h2 : 2 ≤ (s.candidates b).length) :
    ∃ x ∈ s.candidates b, s.winner b = some (x, s.pickedAlone b x) := by
  have hlt : Config.together s.ties % (s.candidates b).length < (s.candidates b).length := Nat.mod_lt _ (by omega)
  refine ⟨_, List.getElem_mem hlt, ?_⟩
  simp only [State.winner, hmet, h2, decide_true, Bool.and_self, if_true, List.head?_drop, List.getElem?_eq_getElem hlt,
    Option.map_some]

/-- The two channels are the candidates, with no SCRUB request and REFRESH at OPPORTUNISTIC or less. -/
theorem rivals.mem_candidates (h : rivals s b n m q r) (hfree : s.isFree b = true) (h0 : (s.account b).balance ≤ 0)
    (hscrub : (s.arb b).scrub = none) (x : Requester) : x ∈ s.candidates b ↔ x = .ch n ∨ x = .ch m := by
  have hrefresh := State.refreshAlone_rowOpen hfree h0 (by simp [h.hit])
  simp only [State.candidates, hrefresh, Bool.false_eq_true, if_false, List.append_nil, List.mem_filter]
  cases x with
  | ch k =>
    have hk : Requester.ch k ∈ otherRequesters := by fin_cases k <;> decide
    simp [hk, h.pendingAt_ch k]
  | _ => simp [State.pendingAt, h.host, h.fill, hscrub]

/-- Either may be taken first. -/
theorem rivals.winner_met (h : rivals s b n m q r) (hfree : s.isFree b = true) (h0 : (s.account b).balance ≤ 0)
    (hscrub : (s.arb b).scrub = none) (hmet : (s.arb b).met = true) :
    s.winner b = some (.ch m, s.pickedFor b r) ∨ s.winner b = some (.ch n, s.pickedFor b q) := by
  have hmem := h.mem_candidates hfree h0 hscrub
  have hlen : [Requester.ch n, .ch m].length ≤ (s.candidates b).length :=
    (List.subperm_of_subset (by simp [h.ne]) fun x hx => (hmem x).2 (by simpa using hx)).length_le
  obtain ⟨x, hx, hwin⟩ := State.winner_met hmet hlen
  rcases (hmem x).1 hx with rfl | rfl
  · refine .inr (hwin.trans ?_)
    simp [State.pickedAlone, State.pickedFor, State.pendingAt, h.first]
  · refine .inl (hwin.trans ?_)
    simp [State.pickedAlone, State.pickedFor, State.pendingAt, h.second]

end

/-! ### A descriptor fetch is granted (R71, R117) -/

section
variable {s : State} {b : BankNo} {k : ChanNo} {x : Request}

/-- A decision takes the mark away, and counts the choice made (log entry 13). -/
theorem State.parted_arb : (s.parted b).arb b = { s.arb b with met := false } := by
  unfold State.parted
  split
  · exact (State.setArb_arb s b b _).trans (if_pos rfl)
  · rename_i h
    rw [← Bool.eq_false_iff.2 h]

theorem State.parted_ties (hmet : (s.arb b).met = true) : (s.parted b).ties = s.ties + 1 := by
  rw [State.parted, if_pos hmet]

/-- The winning fetch of a LOADING channel to a KEEP group has begun, and the channel asks for nothing more. -/
theorem grant_fetch (hreset : s.resetAsserted = false) (hdue : s.grantDue b = true)
    (hwin : s.winner b = some (.ch k, s.pickedFor b x)) (hx : (s.arb b).ch.get k = some x) (hk : x.kind = .fetch k)
    (hload : (s.chan k).state = .loading) (hkeep : (s.group (groupOf x.addr)).state = .keep) :
    ∃ t, exec (.bankGrant b) s = .next t ∧ begun s t b x [] ∧
      t.arb b = { s.afterNormal b (.ch k) (positionOf (.ch k)) x with met := false } ∧
      unchangedBut [.bank b, .arb b] (s.parted b) t ∧ unchangedBut [.bank b, .arb b, .ties] s t := by
  have hpart := s.parted_frame b
  have hbank : (s.parted b).bank b = s.bank b := hpart (.bank b) (by simp)
  have hpicked : (s.parted b).pickedFor b x = s.pickedFor b x := by
    rw [State.pickedFor, State.isHit, hbank, State.pickedFor, State.isHit]
  have hbegun : begun (s.parted b) ((s.parted b).normalBegun b (.ch k) x) b x ((s.parted b).grantPayload x) :=
    State.normalBegun_begun
  have harb : ((s.parted b).normalBegun b (.ch k) x).arb b = _ := State.normalBegun_arb
  have hframe : unchangedBut [.bank b, .arb b] (s.parted b) ((s.parted b).normalBegun b (.ch k) x) := State.normalBegun_frame
  have hnone : (s.parted b).grantPayload x = [] := by simp [State.grantPayload, hk]
  have hcheck : s.grantCheck b (.ch k) x = true := by
    rw [State.grantCheck_eq (by simp) (State.ready_of_grantDue hdue), hkeep]
    rfl
  have hgrants : s.grants b 16 = ((s.parted b).normalBegun b (.ch k) x).granted (.ch k) x := by
    rw [State.grants_request hdue hwin (q := x) hx, if_pos hcheck, ← hpicked]
    rfl
  generalize (s.parted b).normalBegun b (.ch k) x = t at hbegun harb hframe hgrants
  have hall : unchangedBut [.bank b, .arb b, .ties] s t := (hpart.mono (by simp)).andThen hframe (by simp)
  have hchan : t.chan k = s.chan k := hall (.chan k) (by simp)
  have hdone : t.granted (.ch k) x = t := by
    simp only [State.granted, hk]
    exact t.consider_of_not_runs k (by simp [runs, hchan, hload])
  refine ⟨t, exec_bankGrant hreset hdue (hgrants.trans hdone) hall (by simp +contextual), ?_, ?_, hframe, hall⟩
  · have hconfig : (s.parted b).config = s.config := hpart .config (by simp)
    have htiming : (s.parted b).timing = s.timing := hpart .timing (by simp)
    rwa [begun, hbank, hconfig, htiming, hnone] at hbegun
  · rw [harb, State.afterNormal, State.streakAfter, hbank, State.parted_arb]
    rfl

end

/-- Settles O16: the winner in each of the three cases, then the grant of its fetch. -/
theorem streakCapYieldsTheBank : Obligations.StreakCapYieldsTheBank := by
  intro s b n m q r hreset hfree hoff horder hread hlow hhost hfill hothers hne hn hm hhit hmiss _ hrot hkr hloadm hkeepr
  have h : rivals s b n m q r := ⟨hne, hhost, hfill, hothers, hn, hm, hhit, hmiss, hlow⟩
  have hdue : ∀ {x}, s.winner b = some x → s.grantDue b = true := fun hx => by
    simp [State.grantDue, hfree, hoff, horder, hread, hx]
  have hunmet : (s.arb b).met = false → ∀ {t}, unchangedBut [.bank b, .arb b] (s.parted b) t →
      unchangedBut [.bank b, .arb b] s t := fun hmet {t} ht => by rwa [s.parted_of_not_met b hmet] at ht
  refine ⟨fun hmet hcap => ?_, fun hkq hloadn hkeepq => ⟨fun hmet hbelow => ?_, fun hmet h0 hscrub => ?_⟩⟩
  · have hwin := (s.winner_of_not_met b hmet).trans (h.orderWinner_capped hcap (Fin.ext hrot))
    obtain ⟨t, ht, hbegun, harb, hframe, -⟩ := grant_fetch hreset (hdue hwin) hwin hm hkr hloadm hkeepr
    refine ⟨t, ht, ⟨hbegun, ?_⟩, hunmet hmet hframe⟩
    simp [harb, State.afterNormal, State.streakAfter, hmiss, withoutRequest, positionOf]
  · have hwin := (s.winner_of_not_met b hmet).trans (h.orderWinner_preferred hbelow)
    obtain ⟨t, ht, hbegun, harb, hframe, -⟩ := grant_fetch hreset (hdue hwin) hwin hn hkq hloadn hkeepq
    refine ⟨t, ht, ⟨hbegun, ?_⟩, hunmet hmet hframe⟩
    simp [harb, State.afterNormal, State.streakAfter, hhit, withoutRequest, positionOf]
  · have hties : ∀ {t}, unchangedBut [.bank b, .arb b] (s.parted b) t → t.ties = s.ties + 1 := fun ht =>
      (ht .ties (by simp)).trans (State.parted_ties hmet)
    rcases h.winner_met hfree h0 hscrub hmet with hwin | hwin
    · obtain ⟨t, ht, hbegun, harb, hframe, hall⟩ := grant_fetch hreset (hdue hwin) hwin hm hkr hloadm hkeepr
      refine ⟨t, ht, .inl ⟨hbegun, ?_⟩, hties hframe, hall⟩
      simp [harb, State.afterNormal, State.streakAfter, hmiss, withoutRequest, positionOf]
    · obtain ⟨t, ht, hbegun, harb, hframe, hall⟩ := grant_fetch hreset (hdue hwin) hwin hn hkq hloadn hkeepq
      refine ⟨t, ht, .inr ⟨hbegun, ?_⟩, hties hframe, hall⟩
      simp [harb, State.afterNormal, State.streakAfter, hhit, withoutRequest, positionOf]

end Sys2Proof.Machine
end

section
-- One thread at a time: the stack of each thread counts against the memory limit of the check.
set_option Elab.async false
/-! SUPPORT. Proofs/ChannelCommands.lean: CH_START, CH_PAUSE and CH_RESUME. -/

namespace Sys2Proof.Machine

/-! ### What COMMAND and ARG hold -/

theorem State.runCommand_chPause (s : State) (n : ChanNo) (u : BitVec 22) :
    (s.commanded (channelCommandWord u n 0x11#8)).runCommand =
      (s.commanded (channelCommandWord u n 0x11#8)).chPauseCommand n := by
  have h : commandCode (s.commanded (channelCommandWord u n 0x11#8)).command = 0x11#8 :=
    commandCode_channelCommandWord u n _
  have hn : commandChannel (s.commanded (channelCommandWord u n 0x11#8)).command = n :=
    commandChannel_channelCommandWord u n _
  rw [State.runCommand, h, hn]
  rfl

theorem argDesc_of_append (d : DescAddr) : argDesc (0#8 ++ d ++ 0#4 : BitVec 32) = some d := by
  obtain ⟨d', hd⟩ := argDesc_append d
  have hbits : (0#8 ++ d ++ 0#4 : BitVec 32).extractLsb' 4 20 = d :=
    (BitVec.extractLsb'_append_eq_of_le (xhi := 0#8 ++ d) (xlo := 0#4) (by decide)).trans BitVec.extractLsb'_append_eq_right
  unfold argDesc at hd ⊢
  split at hd
  · rename_i hc
    rw [if_pos hc, hbits]
  · cases hd

theorem State.setChan_setChan (s : State) (n : ChanNo) (c d : Channel) : (s.setChan n c).setChan n d = s.setChan n d := by
  simp [State.setChan, Four.set_set]

/-- The channels as a command finds them. -/
theorem State.commanded_chan (s : State) (w : Word) (n : ChanNo) : (s.commanded w).chan n = s.chan n := rfl

section
variable {s : State} {n : ChanNo}

/-! ### CH_START (R137) -/

theorem State.chStart_ok {d : DescAddr} (hs : s.inService = true) (ha : s.arg = (0#8 ++ d ++ 0#4 : BitVec 32))
    (hst : (s.chan n).state = .idle ∨ (s.chan n).state = .halted) (hab : (s.chan n).aborting = false) :
    s.chStartCommand n = .ok (s.startChan n d) := by
  simp only [State.chStartCommand, ha, argDesc_of_append, hs]
  rcases hst with hst | hst <;> simp [hst, hab]

/-- The channel as CH_START finds it pointed at `d`, its fetch not asked for yet. -/
def State.readied (s : State) (n : ChanNo) (d : DescAddr) : State :=
  s.setChan n { s.chan n with stop := .none, fault := .none, desc := d }

theorem State.readied_chan (d : DescAddr) :
    (s.readied n d).chan n = { s.chan n with stop := .none, fault := .none, desc := d } :=
  (s.setChan_chan n n _).trans (if_pos rfl)

theorem State.enterLoading_places (h : (s.chan n).residual = false) : s.enterLoading n =
    (s.setChan n { s.chan n with state := .loading }).placeChan n (fetchRequest n (s.chan n).desc) :=
  if_neg (by simp [h])

/-- While RESIDUAL is set the fetch waits (R136). -/
theorem State.enterLoading_residual (h : (s.chan n).residual = true) :
    s.enterLoading n = s.setChan n { s.chan n with state := .loading } :=
  if_pos h

/-- The channel started is LOADING, and its fetch is pending at its READY bank, or waits (R117). -/
theorem State.startChan_ready {d : DescAddr} (hready : s.isReady (bankOf (descWord d)) = true) :
    (s.startChan n d).chan n = { s.chan n with state := .loading, stop := .none, fault := .none, desc := d } ∧
      (∀ c, (s.startChan n d).arb c =
        if (s.chan n).residual then s.arb c else withRequest n (fetchRequest n d) c (s.arb c)) ∧
      unchangedBut (.chan n :: allArbs) s (s.startChan n d) := by
  have hchan := State.readied_chan (s := s) (n := n) d
  have hframe : unchangedBut [.chan n] s (s.readied n d) := s.setChan_frame n _
  rw [show s.startChan n d = (s.readied n d).enterLoading n from rfl]
  cases hr : (s.chan n).residual with
  | true =>
    rw [State.enterLoading_residual (by rw [hchan]; exact hr), hchan]
    exact ⟨(State.setChan_chan _ n n _).trans (if_pos rfl), fun c => rfl,
      (hframe.trans (State.setChan_frame _ n _)).mono (by simp)⟩
  | false =>
    obtain ⟨hload, harb, hf⟩ := (s.readied n d).enterLoading_ready n (by rw [hchan]; exact hr) (by rw [hchan]; exact hready)
    rw [hchan] at hload harb
    exact ⟨hload, harb, (hframe.mono (by simp)).andThen hf (by simp)⟩

/-- The channel that a start has halted at once, with the record of it (R74, R145, R146). -/
def State.startHalted (s : State) (n : ChanNo) (d : DescAddr) : State :=
  State.raise { s.setChan n (haltedChan { s.chan n with desc := d } .bankState) with
    log := logged s.log (channelFinding n .bankState d none) } (.stop n)

theorem State.startHalted_frame (d : DescAddr) : unchangedBut [.chan n, .log, .events] s (s.startHalted n d) :=
  (((s.setChan_frame n _).mono (by simp)).andThen (State.withLog_frame _ _) (by simp)).andThen (State.raise_frame _ _) (by simp)

/-- At a bank that is not READY the fetch is answered NOT_READY at once (R74). -/
theorem State.startChan_unready {d : DescAddr} (hres : (s.chan n).residual = false) (hnone : ∀ c, (s.arb c).ch.get n = none)
    (hop : s.chanOp n (fun _ => true) = false) (hbeat : s.beatOf n = false) (hready : s.isReady (bankOf (descWord d)) = false)
    (hl : s.log.records.length < 8) : s.startChan n d = s.startHalted n d := by
  let u := s.setChan n { s.chan n with state := .loading, stop := .none, fault := .none, desc := d }
  have hu : u.chan n = { s.chan n with state := .loading, stop := .none, fault := .none, desc := d } :=
    (s.setChan_chan n n _).trans (if_pos rfl)
  have hplace : s.startChan n d = u.placeChan n (fetchRequest n d) := by
    rw [show s.startChan n d = (s.readied n d).enterLoading n from rfl,
      State.enterLoading_places (by rw [State.readied_chan]; exact hres), State.readied_chan, State.readied, State.setChan_setChan]
  have hfail : u.placeChan n (fetchRequest n d) = u.haltChan n .bankState none := by
    have hr : u.isReady (bankOf (fetchRequest n d).addr) = false := hready
    simp only [State.placeChan, hr, Bool.false_eq_true, if_false]
    rfl
  rw [hplace, hfail, State.haltChan_lone u n _ _ hnone hop hbeat,
    State.hand_eq_logged _ _ (coalesces_of_kind_ne _ _ (by simp [channelFinding])) (by exact hl), hu, State.setChan_setChan]
  rfl

/-! ### CH_PAUSE (R134, R138) -/

theorem State.chPause_ok (h : underWay (s.chan n) = true) : s.chPauseCommand n = .ok (s.addPause n hostPause) := by
  simp only [State.chPauseCommand, h, if_true]

theorem State.chPause_refused (h : (s.chan n).state = .idle ∨ (s.chan n).state = .halted) :
    s.chPauseCommand n = .error .state := by
  have : underWay (s.chan n) = false := by
    rcases h with h | h <;> simp [underWay, h]
  simp only [State.chPauseCommand, this, Bool.false_eq_true, if_false]

theorem underWay_iff (c : Channel) :
    underWay c = true ↔ c.aborting = false ∧ (c.state = .loading ∨ c.state = .active ∨ c.state = .paused) := by
  cases h : c.state <;> simp [underWay, h]

theorem Pauses.union_host (p : Pauses) : p.union hostPause = { p with host := true } := by
  simp [Pauses.union, hostPause]

/-- The channel with the reason HOST. -/
def withHostPause (c : Channel) : Channel := { c with pauses := { c.pauses with host := true } }

theorem withHostPause_first {c : Channel} (h : c.pauses = noPauses) : withHostPause c = { c with pauses := hostPause } := by
  rw [withHostPause, h]
  rfl

/-- A reason that is not the first of an ACTIVE channel only joins the set (R134). -/
theorem State.addPause_joins (h : (s.chan n).state ≠ .active ∨ (s.chan n).pauses.any = true) :
    s.addPause n hostPause = s.setChan n (withHostPause (s.chan n)) := by
  have hno : ¬ ((s.chan n).pauses.any = false ∧ (s.chan n).state = .active ∧ (s.chan n).aborting = false) := by
    rintro ⟨hany, hst, -⟩
    rcases h with h | h
    · exact h hst
    · simp [hany] at h
  simp only [State.addPause, if_neg hno, Pauses.union_host, withHostPause]

/-- The channel's first reason is in the set, and its data request withdrawn (R134). -/
def State.pausing (s : State) (n : ChanNo) : State := (s.setChan n (withHostPause (s.chan n))).withdrawData n

theorem State.addPause_first (h : s.takesFirstReason n) :
    s.addPause n hostPause = if (s.pausing n).pauseDue n then (s.pausing n).pauseChan n else s.pausing n := by
  obtain ⟨hst, hp, hab⟩ := h
  have hany : (s.chan n).pauses.any = false := by rw [hp]; rfl
  simp only [State.addPause, if_pos (And.intro hany (And.intro hst hab)), Pauses.union_host]
  rfl

theorem State.withdrawData_frame : unchangedBut allArbs s (s.withdrawData n) := by
  unfold State.withdrawData
  split
  · exact s.withArbs_frame _
  · exact .refl _ s

/-- A channel with one request at most has pending what any arbiter holds of it (R121). -/
theorem State.chanRequest_eq {b : BankNo} {q : Request} (h : s.oneRequest n) (hq : (s.arb b).ch.get n = some q) :
    s.chanRequest n = some q := by
  obtain ⟨p, hp⟩ : ∃ p, s.chanRequest n = some p :=
    Option.isSome_iff_exists.1 (List.findSome?_isSome_iff.2 ⟨b, Four.mem_indices b, by simp [hq]⟩)
  obtain ⟨c, -, hc⟩ := List.exists_of_findSome?_eq_some hp
  rw [hp, ← hc, h c b (by simp [hc]) (by simp [hq]), hq]

/-- Of the one request of the channel a data request is withdrawn, and a fetch or a write-back stays (R134). -/
theorem State.withdrawData_arb (h : s.oneRequest n) (b : BankNo) : (s.withdrawData n).arb b =
    { s.arb b with ch := (s.arb b).ch.set n (((s.arb b).ch.get n).filter fun q => !q.kind.isData) } := by
  have hstays : ∀ x, (s.arb b).ch.get n = x → s.arb b = { s.arb b with ch := (s.arb b).ch.set n x } := fun x hx => by
    rw [← hx, Four.set_get]
  unfold State.withdrawData
  split
  · rename_i hdata
    rw [State.withdrawChan_arb]
    cases hq : (s.arb b).ch.get n with
    | none => rfl
    | some q =>
      rw [State.chanRequest_eq h hq, Option.any_some] at hdata
      simp [Option.filter_some, hdata]
  · rename_i hdata
    refine hstays _ ?_
    cases hq : (s.arb b).ch.get n with
    | none => rfl
    | some q =>
      rw [State.chanRequest_eq h hq, Option.any_some, Bool.not_eq_true] at hdata
      simp [Option.filter_some, hdata]

/-- No data request is left. -/
theorem State.withdrawData_chanRequest : ((s.withdrawData n).chanRequest n).any (fun r => r.kind.isData) = false := by
  unfold State.withdrawData
  split
  · simp [State.chanRequest, Four.indices]
  · rename_i h
    exact Bool.eq_false_iff.2 h

theorem State.pausing_chan : (s.pausing n).chan n = withHostPause (s.chan n) :=
  (State.withdrawData_frame (.chan n) (by simp [allArbs])).trans ((s.setChan_chan n n _).trans (if_pos rfl))

theorem State.pausing_frame : unchangedBut (.chan n :: allArbs) s (s.pausing n) :=
  ((s.setChan_frame n _).mono (by simp)).andThen State.withdrawData_frame (by simp)

/-- The first reason takes effect at once exactly when R134 says so, a descriptor that has ended apart (log entry 14). -/
theorem State.pausing_due_iff (h : s.takesFirstReason n) : (s.pausing n).pauseDue n = true ↔ s.pausesAtOnce n := by
  obtain ⟨hst, hp, hab⟩ := id h
  have hrequest : ((s.pausing n).chanRequest n).any (fun r => r.kind.isData) = false := State.withdrawData_chanRequest
  have hbank : ∀ b, (s.pausing n).bank b = s.bank b := fun b => State.pausing_frame (.bank b) (by simp [allArbs])
  have hstream : (s.pausing n).stream = s.stream := State.pausing_frame .stream (by simp [allArbs])
  have hop : (s.pausing n).chanOp n (fun o => o.kind.isData) = s.chanOp n (fun o => o.kind.isData) := by
    simp only [State.chanOp, State.anyOp, hbank]
  have hbeat : (s.pausing n).beatOf n = s.beatOf n := by rw [State.beatOf, hstream, State.beatOf]
  simp [State.pauseDue, State.settledWork, State.dataOutstanding, State.pausing_chan, hrequest, hop, hbeat, withHostPause, hst,
    hab, Pauses.any, State.pausesAtOnce, h, Option.isSome_iff_ne_none, and_assoc]

/-- What the first reason leaves of the channel and of its one request (R134). -/
theorem State.addPause_first_rule (h : s.takesFirstReason n) (hone : s.oneRequest n) :
    (s.addPause n hostPause).chan n = { withHostPause (s.chan n) with
        state := if s.pausesAtOnce n then .paused else .active } ∧
      (∀ b, (s.addPause n hostPause).arb b = { s.arb b with ch := (s.arb b).ch.set n (s.requestLeft n b) }) ∧
      unchangedBut (.chan n :: allArbs) s (s.addPause n hostPause) := by
  have harb : ∀ b, (s.pausing n).arb b = { s.arb b with ch := (s.arb b).ch.set n (s.requestLeft n b) } := fun b => by
    rw [State.requestLeft, if_pos h]
    exact State.withdrawData_arb (s := s.setChan n (withHostPause (s.chan n))) hone b
  rw [State.addPause_first h]
  by_cases hnow : s.pausesAtOnce n
  · rw [if_pos ((State.pausing_due_iff h).2 hnow), if_pos hnow]
    refine ⟨?_, harb, State.pausing_frame.andThen (State.setChan_frame _ n _) (by simp)⟩
    rw [State.pauseChan_chan, if_pos rfl, State.pausing_chan]
  · rw [if_neg fun hdue => hnow ((State.pausing_due_iff h).1 hdue), if_neg hnow, ← h.1]
    exact ⟨State.pausing_chan, harb, State.pausing_frame⟩

/-- Where no data request is pending, the reason that pauses the channel at once touches the channel alone. -/
theorem State.addPause_atOnce (h : s.pausesAtOnce n) (hdata : s.dataOutstanding n = false) :
    s.addPause n hostPause = s.setChan n { withHostPause (s.chan n) with state := .paused } := by
  rw [State.dataOutstanding, Bool.or_eq_false_iff] at hdata
  have hnone : ((s.setChan n (withHostPause (s.chan n))).chanRequest n).any (fun r => r.kind.isData) = false := hdata.1
  have hpausing : s.pausing n = s.setChan n (withHostPause (s.chan n)) := by
    rw [State.pausing, State.withdrawData, hnone]
    rfl
  rw [State.addPause_first h.1, if_pos ((State.pausing_due_iff h.1).2 h), State.pauseChan, State.pausing_chan, hpausing,
    State.setChan_setChan]

/-! ### CH_RESUME (R135, R139) -/

theorem State.chResume_ok (hs : s.inService = true) (hst : (s.chan n).state = .paused) (hab : (s.chan n).aborting = false) :
    s.chResumeCommand n = .ok (s.removePause n resumedPauses).decideBeat := by
  simp only [State.chResumeCommand, hs, Bool.true_eq_false, if_false, hst, hab, and_self, if_true]

theorem Pauses.without_resumed (p : Pauses) : p.without resumedPauses = { noPauses with retention := p.retention } := by
  simp [Pauses.without, resumedPauses, noPauses]

/-- A channel that RETENTION still holds loses HOST and UNOWNED alone (R135). -/
theorem State.removePause_retained (h : (s.chan n).pauses.retention = true) :
    s.removePause n resumedPauses = s.setChan n { s.chan n with pauses := { noPauses with retention := true } } := by
  have hany : ({ noPauses with retention := true } : Pauses).any = true := rfl
  simp only [State.removePause, Pauses.without_resumed, h, hany, Bool.true_eq_false, false_and, and_false, if_false]

/-- A PAUSED channel that RETENTION does not hold goes on: with a descriptor it is ACTIVE, without one it is LOADING (R135). -/
theorem State.removePause_resumed (hany : (s.chan n).pauses.any = true) (hret : (s.chan n).pauses.retention = false)
    (hst : (s.chan n).state = .paused) (hab : (s.chan n).aborting = false) : s.removePause n resumedPauses =
      if (s.chan n).work.isSome then (s.setChan n { s.chan n with state := .active, pauses := noPauses }).consider n
      else (s.setChan n { s.chan n with pauses := noPauses }).enterLoading n := by
  have hrest : (s.chan n).pauses.without resumedPauses = noPauses := by rw [Pauses.without_resumed, hret]; rfl
  have hnone : noPauses.any = false := rfl
  simp only [State.removePause, hrest, hany, hst, hab, hnone, and_self, if_true, State.setChan_setChan, State.setChan_chan]

/-- Without a descriptor the fetch is asked for at its READY bank (R117). -/
theorem State.resumed_fetch (hres : (s.chan n).residual = false) (hready : s.isReady (bankOf (descWord (s.chan n).desc)) = true) :
    let t := (s.setChan n { s.chan n with pauses := noPauses }).enterLoading n
    t.chan n = { s.chan n with state := .loading, pauses := noPauses } ∧
      (∀ c, t.arb c = withRequest n (fetchRequest n (s.chan n).desc) c (s.arb c)) ∧ unchangedBut (.chan n :: allArbs) s t := by
  have hu : (s.setChan n { s.chan n with pauses := noPauses }).chan n = { s.chan n with pauses := noPauses } :=
    (s.setChan_chan n n _).trans (if_pos rfl)
  obtain ⟨hchan, harb, hframe⟩ := (s.setChan n { s.chan n with pauses := noPauses }).enterLoading_ready n
    (by rw [hu]; exact hres) (by rw [hu]; exact hready)
  rw [hu] at hchan harb
  exact ⟨hchan, harb, ((s.setChan_frame n _).mono (by simp)).andThen hframe (by simp)⟩

/-- The PAUSED channel whose last reason the host takes away goes on (R135). -/
theorem State.resumed_wentOn (h : s.mayGoOn n) (hany : (s.chan n).pauses.any = true) (hret : (s.chan n).pauses.retention = false) :
    wentOn s (s.removePause n resumedPauses) n ∧ unchangedBut (.chan n :: allArbs) s (s.removePause n resumedPauses) := by
  obtain ⟨hst, hab, hres, hended, hnone, hop, -, hfetch, hdata⟩ := h
  rw [State.removePause_resumed hany hret hst hab, wentOn]
  cases hw : (s.chan n).work with
  | none =>
    obtain ⟨hchan, harb, hframe⟩ := State.resumed_fetch hres (hfetch hw)
    exact ⟨⟨hchan, harb⟩, hframe⟩
  | some w =>
    let u := s.setChan n { s.chan n with state := .active, pauses := noPauses }
    have hu : u.chan n = { s.chan n with state := .active, pauses := noPauses } := (s.setChan_chan n n _).trans (if_pos rfl)
    have hruns : runs (u.chan n) = true := by simp [hu, runs, hab, hended, hw, noPauses, Pauses.any]
    have hask : requestAtRest n (u.chan n) w = requestAtRest n (s.chan n) w := by
      rw [hu]
      rfl
    obtain ⟨hframe, harb⟩ := State.consider_atRest (s := u) (n := n) (hu ▸ hw) hruns hnone hop (hask ▸ (hdata w hw).1)
    rw [hask] at harb
    exact ⟨⟨(hframe (.chan n) (by simp [allArbs])).trans hu, harb⟩,
      ((s.setChan_frame n _).mono (by simp)).andThen hframe (by simp)⟩

/-- Going on shows in the channel and the arbiters alone. -/
theorem wentOn_after {v t : State} (h : wentOn s v n) (hn : t.chan n = v.chan n) (ha : ∀ b, t.arb b = v.arb b) :
    wentOn s t n := by
  simpa only [wentOn, hn, ha] using h

/-- A quiet stream port stays quiet where one channel alone has changed and makes no beat begin (R156). -/
theorem State.decideBeat_of_chan {t : State} (h : s.portQuiet) (hf : unchangedBut (.chan n :: allArbs) s t)
    (hn : t.stream.beat ≠ none ∨ t.eligible n = false) : t.decideBeat = t :=
  t.decideBeat_quiet (portQuiet_of_chans h (hf .stream (by simp [allArbs])) fun m => by
    by_cases hm : m = n
    · exact .inr (hm ▸ hn)
    · exact .inl (hf (.chan m) (by simp [hm, allArbs])))

end

/-! ### The three commands, taken -/

section
variable {s : State} {n : ChanNo} (u : BitVec 22)

theorem chStart_ready {d : DescAddr} (hc : s.commandReady) (hs : s.inService = true)
    (ha : s.arg = (0#8 ++ d ++ 0#4 : BitVec 32)) (hst : (s.chan n).state = .idle ∨ (s.chan n).state = .halted)
    (hab : (s.chan n).aborting = false) (hready : s.isReady (bankOf (descWord d)) = true) :
    ∃ t, exec (.chStart n u) s = .next t ∧ commandTaken s t (channelCommandWord u n 0x10#8) ∧
      t.chan n = { s.chan n with state := .loading, stop := .none, fault := .none, desc := d } ∧
      (∀ c, t.arb c = if (s.chan n).residual then s.arb c else withRequest n (fetchRequest n d) c (s.arb c)) ∧
      unchangedBut ([.chan n, .command, .cmdStatus, .host] ++ allArbs) s t := by
  have hrun := (s.runCommand_chStart n u).trans (State.chStart_ok (s := s.commanded _) hs ha hst hab)
  obtain ⟨hchan, harb, heff⟩ := State.startChan_ready (s := s.commanded (channelCommandWord u n 0x10#8)) (n := n) hready
  obtain ⟨t, ht, htaken, hlast, hframe⟩ := taken_of_runCommand hc hrun heff (by simp [allArbs])
  exact ⟨t, ht, htaken, (hlast (.chan n) (by simp)).trans hchan, fun c => (hlast (.arb c) (by simp)).trans (harb c),
    hframe.mono (by grind)⟩

theorem chStart_unready {d : DescAddr} (hc : s.commandReady) (hs : s.inService = true)
    (ha : s.arg = (0#8 ++ d ++ 0#4 : BitVec 32)) (hst : (s.chan n).state = .idle ∨ (s.chan n).state = .halted)
    (hab : (s.chan n).aborting = false) (hres : (s.chan n).residual = false) (hnone : ∀ c, (s.arb c).ch.get n = none)
    (hop : s.chanOp n (fun _ => true) = false) (hbeat : s.beatOf n = false) (hready : s.isReady (bankOf (descWord d)) = false)
    (hl : s.log.records.length < 8) :
    ∃ t, exec (.chStart n u) s = .next t ∧ commandTaken s t (channelCommandWord u n 0x10#8) ∧
      t.chan n = haltedChan { s.chan n with desc := d } .bankState ∧
      t.log = logged s.log (channelFinding n .bankState d none) ∧ t.events = withEvent s.events (.stop n) ∧
      unchangedBut [.chan n, .log, .events, .command, .cmdStatus, .host] s t := by
  have hrun := (s.runCommand_chStart n u).trans (State.chStart_ok (s := s.commanded _) hs ha hst hab)
  rw [State.startChan_unready (s := s.commanded _) hres hnone hop hbeat hready hl] at hrun
  obtain ⟨t, ht, htaken, hlast, hframe⟩ := taken_of_runCommand hc hrun (State.startHalted_frame d) (by simp)
  exact ⟨t, ht, htaken, (hlast (.chan n) (by simp)).trans ((State.setChan_chan _ n n _).trans (if_pos rfl)),
    hlast .log (by simp), hlast .events (by simp), hframe⟩

/-- CH_PAUSE whose effect is one on the channel alone. -/
theorem chPause_chan {c : Channel} (hc : s.commandReady) (hway : underWay (s.chan n) = true)
    (heff : (s.commanded (channelCommandWord u n 0x11#8)).addPause n hostPause =
      (s.commanded (channelCommandWord u n 0x11#8)).setChan n c) :
    ∃ t, exec (.chPause n u) s = .next t ∧ commandTaken s t (channelCommandWord u n 0x11#8) ∧ t.chan n = c ∧
      unchangedBut [.chan n, .command, .cmdStatus, .host] s t := by
  have hrun := (s.runCommand_chPause n u).trans (State.chPause_ok (s := s.commanded _) hway)
  rw [heff] at hrun
  obtain ⟨t, ht, htaken, hlast, hframe⟩ := taken_of_runCommand hc hrun (State.setChan_frame _ n _) (by simp)
  exact ⟨t, ht, htaken, (hlast (.chan n) (by simp)).trans ((State.setChan_chan _ n n _).trans (if_pos rfl)), hframe⟩

theorem chPause_first (hc : s.commandReady) (hfirst : s.takesFirstReason n) (hone : s.oneRequest n) :
    ∃ t, exec (.chPause n u) s = .next t ∧ commandTaken s t (channelCommandWord u n 0x11#8) ∧
      t.chan n = { withHostPause (s.chan n) with state := if s.pausesAtOnce n then .paused else .active } ∧
      (∀ b, t.arb b = { s.arb b with ch := (s.arb b).ch.set n (s.requestLeft n b) }) ∧
      unchangedBut ([.chan n, .command, .cmdStatus, .host] ++ allArbs) s t := by
  obtain ⟨hst, -, hab⟩ := id hfirst
  have hrun := (s.runCommand_chPause n u).trans
    (State.chPause_ok (s := s.commanded _) ((underWay_iff _).2 ⟨hab, .inr (.inl hst)⟩))
  obtain ⟨hchan, harb, heff⟩ := State.addPause_first_rule (s := s.commanded (channelCommandWord u n 0x11#8)) hfirst hone
  obtain ⟨t, ht, htaken, hlast, hframe⟩ := taken_of_runCommand hc hrun heff (by simp [allArbs])
  exact ⟨t, ht, htaken, (hlast (.chan n) (by simp)).trans hchan, fun b => (hlast (.arb b) (by simp)).trans (harb b),
    hframe.mono (by grind)⟩

/-- CH_RESUME of a PAUSED channel, where what its reasons' removal leaves makes no beat begin. -/
theorem chResume_quiet {v : State} {ps : List Part} (hc : s.commandReady) (hs : s.inService = true)
    (hst : (s.chan n).state = .paused) (hab : (s.chan n).aborting = false) (hquiet : s.portQuiet)
    (heff : (s.commanded (channelCommandWord u n 0x12#8)).removePause n resumedPauses = v)
    (hf : unchangedBut ps (s.commanded (channelCommandWord u n 0x12#8)) v) (hps : ps ⊆ .chan n :: allArbs)
    (hbeat : v.stream.beat ≠ none ∨ v.eligible n = false) :
    ∃ t, exec (.chResume n u) s = .next t ∧ commandTaken s t (channelCommandWord u n 0x12#8) ∧
      unchangedBut [.cmdStatus, .host] v t ∧ unchangedBut (ps ++ [.command, .cmdStatus, .host]) s t := by
  have hrun := (s.runCommand_chResume n u).trans (State.chResume_ok (s := s.commanded _) hs hst hab)
  rw [heff, State.decideBeat_of_chan (s := s.commanded _) hquiet (hf.mono hps) hbeat] at hrun
  exact taken_of_runCommand hc hrun hf fun p hp hin => by
    have := hps hin
    revert this hp
    cases p <;> simp [allArbs]

end

/-- Settles O55: what each command makes of the channel, clause by clause. -/
theorem channelsStartPauseAndResume : Obligations.ChannelsStartPauseAndResume := by
  intro s n u hc
  refine ⟨fun d hs ha hst hab hready => chStart_ready u hc hs ha hst hab hready,
    fun d hs ha hst hab hres hnone hop hbeat hready hl => chStart_unready u hc hs ha hst hab hres hnone hop hbeat hready hl,
    fun hab hst => ?_, fun hab hst hp hw hended hdata hbeat => ?_, fun hfirst hone => ?_,
    fun hst => refused_of_runCommand hc ((s.runCommand_chPause n u).trans (State.chPause_refused (s := s.commanded _) hst)),
    fun hs hab hst hquiet => ⟨fun hret => ?_, fun hret hany hw hres hready => ?_, fun hret hany hgo => ?_⟩⟩
  · have hway : underWay (s.chan n) = true :=
      (underWay_iff _).2 ⟨hab, hst.imp_right fun h => h.elim .inr fun ⟨hactive, _⟩ => .inl hactive⟩
    have hjoin : (s.chan n).state ≠ .active ∨ (s.chan n).pauses.any = true := by
      rcases hst with h | h | ⟨-, hany⟩
      · exact .inl (by simp [h])
      · exact .inl (by simp [h])
      · exact .inr hany
    exact chPause_chan u hc hway (State.addPause_joins (s := s.commanded _) hjoin)
  · have hop : s.chanOp n (fun o => o.kind.isData) = false := by
      rw [State.dataOutstanding, Bool.or_eq_false_iff] at hdata
      exact hdata.2
    have hnow : s.pausesAtOnce n := ⟨⟨hst, hp, hab⟩, hw, hended, hop, hbeat⟩
    obtain ⟨t, ht, htaken, hchan, hframe⟩ := chPause_chan u hc ((underWay_iff _).2 ⟨hab, .inr (.inl hst)⟩)
      (State.addPause_atOnce (s := s.commanded _) hnow hdata)
    exact ⟨t, ht, htaken, hchan.trans (by rw [State.commanded_chan, withHostPause_first hp]; rfl), hframe⟩
  · obtain ⟨-, hp, -⟩ := id hfirst
    obtain ⟨t, ht, htaken, hchan, harb, hframe⟩ := chPause_first u hc hfirst hone
    exact ⟨t, ht, htaken, hchan.trans (by rw [withHostPause_first hp]; rfl), harb, hframe⟩
  · have heff := State.removePause_retained (s := s.commanded (channelCommandWord u n 0x12#8)) hret
    obtain ⟨t, ht, htaken, hlast, hframe⟩ := chResume_quiet u hc hs hst hab hquiet heff (State.setChan_frame _ n _) (by simp)
      (.inr (State.eligible_of_not_runs _ n (by simp [State.setChan_chan, runs, Pauses.any])))
    exact ⟨t, ht, htaken, (hlast (.chan n) (by simp)).trans ((State.setChan_chan _ n n _).trans (if_pos rfl)), hframe⟩
  · obtain ⟨hchan, harb, heff⟩ := State.resumed_fetch (s := s.commanded (channelCommandWord u n 0x12#8)) hres hready
    obtain ⟨t, ht, htaken, hlast, hframe⟩ := chResume_quiet u hc hs hst hab hquiet
      ((State.removePause_resumed (s := s.commanded _) hany hret hst hab).trans (if_neg (by simp [State.commanded_chan, hw])))
      heff (by simp) (.inr (State.eligible_of_not_runs _ n (by simp [hchan, runs])))
    exact ⟨t, ht, htaken, (hlast (.chan n) (by simp)).trans hchan, fun c => (hlast (.arb c) (by simp)).trans (harb c),
      hframe.mono (by grind)⟩
  · obtain ⟨hwent, heff⟩ := State.resumed_wentOn (s := s.commanded (channelCommandWord u n 0x12#8)) hgo hany hret
    obtain ⟨t, ht, htaken, hlast, hframe⟩ := chResume_quiet u hc hs hst hab hquiet rfl heff (by simp)
      (State.eligible_of_wentOn hgo hwent (heff .stream (by simp [allArbs])))
    have hdone : wentOn s t n := wentOn_after hwent (hlast (.chan n) (by simp)) fun b => hlast (.arb b) (by simp)
    exact ⟨t, ht, htaken, hdone, hframe.mono (by grind)⟩

end Sys2Proof.Machine
end

section
-- One thread at a time: the stack of each thread counts against the memory limit of the check.
set_option Elab.async false
/-! SUPPORT. Proofs/CheckCode.lean: the check code is linear, so the syndrome of a word with inverted bits is the exclusive-OR of the positions of
those bits, whatever the data. -/

namespace Sys2Proof.Machine

/-! ### Linearity -/

/-- One term of `positionXor`: the position `p` is taken in where bit `i` of the data is 1. -/
def xorStep (d : Word) (acc : BitVec 6) (pi : Nat × Nat) : BitVec 6 :=
  if d.getLsbD pi.2 then acc ^^^ BitVec.ofNat 6 pi.1 else acc

theorem xorStep_xor (d e : Word) (a b : BitVec 6) (pi : Nat × Nat) :
    xorStep (d ^^^ e) (a ^^^ b) pi = xorStep d a pi ^^^ xorStep e b pi := by
  simp only [xorStep, BitVec.getLsbD_xor]
  generalize BitVec.ofNat 6 pi.1 = c
  cases d.getLsbD pi.2 <;> cases e.getLsbD pi.2
  · rfl
  · exact BitVec.xor_assoc a b c
  · exact (BitVec.xor_assoc a b c).trans ((congrArg (a ^^^ ·) (BitVec.xor_comm b c)).trans (BitVec.xor_assoc a c b).symm)
  · have h : a ^^^ c ^^^ (b ^^^ c) = a ^^^ b ^^^ (c ^^^ c) := by ac_rfl
    simpa using h.symm

theorem foldl_xorStep_xor (d e : Word) (l : List (Nat × Nat)) : ∀ a b : BitVec 6,
    l.foldl (xorStep (d ^^^ e)) (a ^^^ b) = l.foldl (xorStep d) a ^^^ l.foldl (xorStep e) b := by
  induction l with
  | nil => exact fun _ _ => rfl
  | cons pi rest ih =>
    intro a b
    rw [List.foldl_cons, xorStep_xor]
    exact ih _ _

theorem positionXor_xor (d e : Word) : positionXor (d ^^^ e) = positionXor d ^^^ positionXor e :=
  foldl_xorStep_xor d e dataPositions.zipIdx 0#6 0#6

theorem parity_xor {n : Nat} (x y : BitVec n) : parity (x ^^^ y) = Bool.xor (parity x) (parity y) := by
  have hfold : ∀ (l : List Nat) (a b : Bool),
      l.foldl (fun acc i => Bool.xor acc ((x ^^^ y).getLsbD i)) (Bool.xor a b) =
        Bool.xor (l.foldl (fun acc i => Bool.xor acc (x.getLsbD i)) a)
          (l.foldl (fun acc i => Bool.xor acc (y.getLsbD i)) b) := by
    intro l
    induction l with
    | nil => exact fun _ _ => rfl
    | cons i rest ih =>
      intro a b
      have hstep : Bool.xor (Bool.xor a b) ((x ^^^ y).getLsbD i) =
          Bool.xor (Bool.xor a (x.getLsbD i)) (Bool.xor b (y.getLsbD i)) := by
        simp only [BitVec.getLsbD_xor, Bool.xor_assoc, Bool.xor_left_comm]
      rw [List.foldl_cons, hstep]
      exact ih _ _
  exact hfold (List.range n) false false

/-- The exclusive-OR of two stored words, data and check bits alike. -/
def storedXor (x y : Stored) : Stored := { data := x.data ^^^ y.data, check := x.check ^^^ y.check }

/-- The syndrome is linear in the 39 bits (R81). -/
theorem syndromeOf_xor (x y : Stored) : syndromeOf (storedXor x y) =
    { s := (syndromeOf x).s ^^^ (syndromeOf y).s, p := Bool.xor (syndromeOf x).p (syndromeOf y).p } := by
  simp only [syndromeOf, storedXor, positionXor_xor, parity_xor, BitVec.setWidth_xor, Syndrome.mk.injEq]
  exact ⟨by ac_rfl, by simp only [Bool.xor_assoc, Bool.xor_left_comm]⟩

/-! ### The syndromes of a coded word and of single bits -/

theorem parity_append_bit : ∀ (q : Bool) (c : BitVec 6), parity (BitVec.ofBool q ++ c : CheckBits) = Bool.xor q (parity c) := by
  decide

/-- A coded word has the syndrome 0 (R79, R80). -/
theorem syndromeOf_encodeWord (d : Word) : syndromeOf (encodeWord d) = { s := 0#6, p := false } := by
  have hs : (checkBitsOf d).setWidth 6 = positionXor d := BitVec.setWidth_append_eq_right
  have hp : parity (checkBitsOf d) = Bool.xor (Bool.xor (parity d) (parity (positionXor d))) (parity (positionXor d)) :=
    parity_append_bit _ _
  simp only [syndromeOf, encodeWord, hs, hp, BitVec.xor_self, Syndrome.mk.injEq, true_and]
  cases parity d <;> cases parity (positionXor d) <;> rfl

/-- The Hamming position of each of the 39 bits: that of a data bit, the power of two of C0 to C5, and 0 for C6 (R79). -/
def bitPosition (i : Nat) : BitVec 6 := if i < 32 then BitVec.ofNat 6 (dataPositions.getD i 0) else 1#6 <<< (i - 32)

/-- A word with bit `i` inverted is its exclusive-OR with the word in which that bit alone is 1. -/
theorem flipBit_eq_storedXor (x : Stored) (i : Nat) : flipBit x i = storedXor x (flipBit blankWord i) := by
  unfold flipBit
  split <;> simp [storedXor, blankWord]

theorem syndromeOf_loneBit : ∀ i < 39, syndromeOf (flipBit blankWord i) = { s := bitPosition i, p := true } := by
  intro i hi
  interval_cases i <;> rfl

/-- An inverted bit adds its position to S and inverts P. -/
theorem syndromeOf_flipBit (x : Stored) {i : Nat} (hi : i < 39) : syndromeOf (flipBit x i) =
    { s := (syndromeOf x).s ^^^ bitPosition i, p := !(syndromeOf x).p } := by
  rw [flipBit_eq_storedXor, syndromeOf_xor, syndromeOf_loneBit i hi, Bool.xor_true]

/-! ### The positions tell the bits apart -/

theorem bitPosition_data : ∀ i < 32, (bitPosition i).toNat < 39 ∧ dataPositions.contains (bitPosition i).toNat = true ∧
    dataPositions.idxOf (bitPosition i).toNat = i := by
  decide

theorem bitPosition_check : ∀ k < 7, (bitPosition (k + 32)).toNat < 39 ∧
    dataPositions.contains (bitPosition (k + 32)).toNat = false := by
  decide

theorem bitPosition_nodup : ((List.range 39).map bitPosition).Nodup := by decide

theorem bitPosition_inj {i j : Nat} (hi : i < 39) (hj : j < 39) (h : bitPosition i = bitPosition j) : i = j :=
  List.inj_on_of_nodup_map bitPosition_nodup (List.mem_range.2 hi) (List.mem_range.2 hj) h

/-! ### The class of a word (R81) -/

theorem classify_clean {x : Stored} (h : syndromeOf x = { s := 0#6, p := false }) : classify x = .clean x.data := by
  simp [classify, h]

/-- An even number of inverted bits, not none. -/
theorem classify_even {x : Stored} {y : BitVec 6} (h : syndromeOf x = { s := y, p := false }) (hy : y ≠ 0#6) :
    classify x = .uncorrectable := by
  simp [classify, h, hy]

/-- The position of a data bit: that bit is inverted back. -/
theorem classify_data {x : Stored} {i : Nat} (hi : i < 32) (h : syndromeOf x = { s := bitPosition i, p := true }) :
    classify x = .corrected (x.data ^^^ (1#32 <<< i)) := by
  obtain ⟨hlt, hmem, hidx⟩ := bitPosition_data i hi
  simp only [classify, h, Bool.not_true, Bool.false_eq_true, if_false, Nat.not_le.2 hlt, hmem, if_true, hidx]

/-- The position of a check bit: the data is as stored. -/
theorem classify_check {x : Stored} {k : Nat} (hk : k < 7) (h : syndromeOf x = { s := bitPosition (k + 32), p := true }) :
    classify x = .corrected x.data := by
  obtain ⟨hlt, hmem⟩ := bitPosition_check k hk
  simp only [classify, h, Bool.not_true, Bool.false_eq_true, if_false, Nat.not_le.2 hlt, hmem]

/-- Settles O18: one inverted bit leaves its own position as the syndrome. -/
theorem singleErrorsAreCorrected : Obligations.SingleErrorsAreCorrected := by
  intro d
  refine ⟨classify_clean (syndromeOf_encodeWord d), fun i hi => ?_⟩
  have hsyn : syndromeOf (flipBit (encodeWord d) i) = { s := bitPosition i, p := true } := by
    simp [syndromeOf_flipBit _ hi, syndromeOf_encodeWord]
  by_cases hdata : i < 32
  · rw [classify_data hdata hsyn]
    simp [flipBit, hdata, encodeWord]
  · obtain ⟨k, rfl⟩ := Nat.exists_eq_add_of_le' (Nat.not_lt.1 hdata)
    rw [classify_check (by omega) hsyn]
    simp [flipBit, encodeWord]

/-- Settles O19: two inverted bits leave P as it was, and S is not 0 since their positions differ. -/
theorem doubleErrorsAreDetected : Obligations.DoubleErrorsAreDetected := by
  intro d i j hi hj hij
  have hsyn : syndromeOf (flipBit (flipBit (encodeWord d) i) j) = { s := bitPosition i ^^^ bitPosition j, p := false } := by
    simp [syndromeOf_flipBit _ hi, syndromeOf_flipBit _ hj, syndromeOf_encodeWord]
  refine classify_even hsyn fun h0 => hij (bitPosition_inj hi hj ?_)
  exact BitVec.xor_eq_zero_iff.1 h0

end Sys2Proof.Machine
end

section
-- One thread at a time: the stack of each thread counts against the memory limit of the check.
set_option Elab.async false
/-! SUPPORT. Proofs/PostedWrites.lean: a write of the memory window, its place in the queue, and the check-override latch. -/

namespace Sys2Proof.Machine

/-! ### MEMORY_WRITE (R102) -/

section
variable {s : State} {w : WordAddr} {lanes : BitVec 4} {data : Word}

theorem State.startWrite_noLane : s.startWrite w 0#4 data = s.endCycle (.ready none) := by
  simp [State.startWrite]

theorem State.startWrite_full (hl : lanes ≠ 0#4) (hq : s.host.queue.length = 4) :
    s.startWrite w lanes data = s.holdCycle (.writeHeld w lanes data) := by
  simp [State.startWrite, hl, hq, Config.hostQueueDepth]

theorem State.startWrite_room (hl : lanes ≠ 0#4) (hq : s.host.queue.length < 4) :
    s.startWrite w lanes data = s.acceptWrite w lanes data := by
  simp [State.startWrite, hl, hq, Config.hostQueueDepth]

theorem State.acceptWrite_unserved (hs : ¬s.served w) : s.acceptWrite w lanes data = s.endCycle .error := by
  rw [State.acceptWrite, if_neg fun h => hs ((s.windowOpen_iff w).1 h)]

/-- The queue entry that an accepted write makes, with the armed check bits where it takes them (R89, R102). -/
def State.entryOf (s : State) (w : WordAddr) (lanes : BitVec 4) (data : Word) : HostEntry :=
  { addr := w, lanes := lanes, data := data
    mark := if s.override.armed = true ∧ lanes = 15#4 then some s.override.check else none }

/-- The latch after an accepted write: disarmed by a full word (R88, R89). -/
def overrideAfter (x : CheckOverride) (lanes : BitVec 4) : CheckOverride :=
  if x.armed = true ∧ lanes = 15#4 then { x with armed := false } else x

/-- The write has joined the queue and its cycle has ended; no head is placed yet (R102). -/
def State.posted (s : State) (w : WordAddr) (lanes : BitVec 4) (data : Word) : State :=
  { s with
    override := overrideAfter s.override lanes
    host := { queue := s.host.queue ++ [s.entryOf w lanes data], cycle := .idle, busEnd := some (.ready none) } }

theorem State.posted_frame : unchangedBut [.host, .override] s (s.posted w lanes data) := by
  intro p hp
  cases p with
  | host | override => simp at hp
  | _ => rfl

/-- A write that passes R99 is posted, and the head of the queue is placed (R102, R104). -/
theorem State.acceptWrite_posted (hs : s.served w) : s.acceptWrite w lanes data = (s.posted w lanes data).placeHead := by
  have hoverride : ({ s.override with armed := s.override.armed && !(s.override.armed && lanes == 15#4) } : CheckOverride) =
      overrideAfter s.override lanes := by
    cases hx : s.override with
    | mk armed check =>
      by_cases hl : lanes = 15#4 <;> cases armed <;> simp [overrideAfter, hl]
  rw [State.acceptWrite, if_pos ((s.windowOpen_iff w).2 hs)]
  dsimp only
  rw [hoverride]
  simp only [Bool.and_eq_true, beq_iff_eq]
  rfl

end

/-! ### The head is placed (R104) -/

/-- The head of the queue asks its READY bank, where no host request is pending, for its operation. -/
theorem State.placeHead_asks {s : State} {e : HostEntry} {rest : List HostEntry} (hq : s.host.queue = e :: rest)
    (hp : s.headPlaced = false) (hr : s.isReady (bankOf e.addr) = true) (hnone : (s.arb (bankOf e.addr)).host = none) :
    s.placeHead = s.setArb (bankOf e.addr) { s.arb (bankOf e.addr) with host := some (headRequest e) } := by
  simp [State.placeHead, State.placeHeads, hq, hp, hr, hnone]

theorem headRequest_entryOf (s : State) (w : WordAddr) (lanes : BitVec 4) (data : Word) :
    headRequest (s.entryOf w lanes data) =
      { kind := if lanes = 15#4 then .hostWrite else .hostMerge, addr := w, words := 1 } := by
  simp [headRequest, State.entryOf, HostEntry.full]

/-- Settles O44. -/
theorem memoryWriteIsPosted : Obligations.MemoryWriteIsPosted := by
  intro s w lanes data hfree
  refine ⟨fun hl => ⟨_, next_busCycle hfree, ?_⟩, fun hl hq => ⟨_, next_busCycle hfree, ?_⟩,
    fun hl hq hs => ⟨_, next_busCycle hfree, ?_⟩, fun hl hs hq hp hnone => ⟨_, next_busCycle hfree, ?_⟩⟩
  · rw [hl, State.startWrite_noLane]
    exact ⟨rfl, s.endCycle_frame _⟩
  · rw [State.startWrite_full hl hq]
    exact ⟨rfl, s.withHost_frame _⟩
  · rw [State.startWrite_room hl hq, State.acceptWrite_unserved hs]
    exact ⟨rfl, s.endCycle_frame _⟩
  · have hroom : s.host.queue.length < 4 := by simp [hq]
    have hqueue : (s.posted w lanes data).host.queue = [s.entryOf w lanes data] := by simp [State.posted, hq]
    rw [State.startWrite_room hl hroom, State.acceptWrite_posted hs, State.placeHead_asks hqueue hp hs.2.1 hnone,
      headRequest_entryOf]
    refine ⟨?_, rfl, ?_, (State.posted_frame.mono (by simp)).andThen (State.setArb_frame _ _ _) (by simp [State.entryOf])⟩
    · simp [State.posted, hq, State.entryOf]
    · exact (State.setArb_arb _ _ _ _).trans (if_pos rfl)

/-! ### The check-override latch (R88) -/

theorem State.writeOverride_frame (s : State) (x : Word) : unchangedBut [.override] s (s.writeOverride x) := by
  intro p hp
  cases p with
  | override => simp at hp
  | _ => rfl

theorem flag_getLsbD (f : Bool) (pos : Nat) {i : Nat} (hi : i < 32) : (flag f pos).getLsbD i = (f && decide (pos = i)) := by
  cases f
  · simp [flag]
  · rw [flag, if_pos rfl, field, one_mul, BitVec.getLsbD_ofNat, Nat.testBit_two_pow]
    simp [hi]

/-- The bits of CHECK_OVERRIDE that hold a field: CHECK and ARMED (12.2). -/
theorem overrideMask_getLsbD : ∀ i < 32, (0x8000007F#32).getLsbD i = (decide (i < 7) || decide (31 = i)) := by decide

/-- CHECK_OVERRIDE reads as the fields last written (12.2). -/
theorem State.readOverride_written {s : State} {x : Word} (h : s.override = { armed := x.getLsbD 31, check := x.setWidth 7 }) :
    s.registerRead 0x0B#6 = x &&& 0x8000007F#32 := by
  have hread : s.registerRead 0x0B#6 = field (x.setWidth 7).toNat 0 ||| flag (x.getLsbD 31) 31 := by
    show s.readOverride = _
    rw [State.readOverride, h]
  have hcheck : field (x.setWidth 7).toNat 0 = (x.setWidth 7).setWidth 32 := by
    rw [field, pow_zero, mul_one, BitVec.ofNat_toNat]
  rw [hread, hcheck]
  refine BitVec.eq_of_getLsbD_eq fun i hi => ?_
  rw [BitVec.getLsbD_or, BitVec.getLsbD_and, flag_getLsbD _ _ hi, overrideMask_getLsbD i hi, BitVec.getLsbD_setWidth,
    BitVec.getLsbD_setWidth]
  by_cases h31 : 31 = i
  · subst h31
    simp
  · simp [h31, hi, Bool.and_comm]

/-- Soft reset clears ARMED and leaves CHECK (R88, R112). -/
theorem State.softResetEffect_override (s : State) : s.softResetEffect.override = { s.override with armed := false } := by
  let t := s.resetFill.resetScrub
  let u : State := { t with override := { t.override with armed := false } }
  have ht : t.override = s.override :=
    (State.resetScrub_frame _ .override (by simp [allArbs, allBanks])).trans (s.resetFill_frame .override (by simp [allArbs]))
  calc s.softResetEffect.override
      = (Four.indices.foldl (fun v n => v.resetChan n) u).clearReports.override :=
        State.applySkips_frame _ .override (by simp [allAccounts])
    _ = (Four.indices.foldl (fun v n => v.resetChan n) u).override := State.clearReports_frame _ .override (by simp)
    _ = u.override := u.resetChans_frame .override (by simp [allArbs, allBanks, allChans])
    _ = { s.override with armed := false } := congrArg (fun x : CheckOverride => { x with armed := false }) ht

/-- A command's effect alone says what is left of the latch. -/
theorem State.concludeCommand_override (s t : State) : (s.concludeCommand (.ok t)).override = t.override := rfl

/-- Settles O49. -/
theorem checkOverrideLatch : Obligations.CheckOverrideLatch := by
  refine ⟨fun s x hfree => ⟨_, next_busCycle hfree, rfl, State.readOverride_written rfl, rfl, ?_⟩,
    fun s w data hfree hs hq harmed => ⟨_, next_busCycle hfree, ?_⟩, fun s u hready hs => ⟨_, next_issue _ hready, ?_⟩,
    fun s => ⟨_, rfl, rfl⟩⟩
  · exact ((s.writeOverride_frame x).mono (by simp)).andThen (State.endCycle_frame _ _) (by simp)
  · have hroom : s.host.queue.length < 4 := by simp [hq]
    have hready : ∀ e ∈ (s.posted w 15#4 data).host.queue, s.isReady (bankOf e.addr) = true := by
      simpa [State.posted, hq, State.entryOf] using hs.2.1
    rw [State.startWrite_room (by decide) hroom, State.acceptWrite_posted hs]
    refine (State.placeHeads_frame _ (s.posted w 15#4 data) hready .override (by simp [allArbs])).trans ?_
    simp [State.posted, overrideAfter, harmed]
  · have hserved : (s.commanded (commandWord u 0x1F#8)).inService = true := hs
    rw [State.runCommand_softReset, State.softResetCommand, hserved, if_neg (by simp)]
    rw [State.concludeCommand_override, State.softResetEffect_override]
    rfl

end Sys2Proof.Machine
end

section
-- One thread at a time: the stack of each thread counts against the memory limit of the check.
set_option Elab.async false
/-! SUPPORT. Proofs/CheckedWords.lean: what the check unit does with one word, and the completions of the host's READ and MERGE. -/

namespace Sys2Proof.Machine

/-! ### Findings handed to the log (R178, R179) -/

theorem coalesces_new {l : ErrorLog} {f : Finding}
    (h : ∀ r, l.records.getLast? = some r → r.finding.kind ≠ .corrected ∨ r.finding.addr ≠ f.addr) : coalesces l f = false := by
  unfold coalesces
  cases hr : l.records.getLast? with
  | none => simp
  | some r =>
    have := h r hr
    simp only [Bool.and_eq_false_iff, beq_eq_false_iff_ne]
    tauto

/-- A repeat of the newest record raises its repeat count. -/
theorem State.hand_repeat {s : State} {f : Finding} {older : List Record} {r : Record} (hr : s.log.records = older ++ [r])
    (hf : f.kind = .corrected) (hk : r.finding.kind = .corrected) (ha : r.finding.addr = f.addr) :
    s.hand f = { s with log := { s.log with records := older ++ [{ r with repeats := min 15 (r.repeats + 1) }] } } := by
  have hc : coalesces s.log f = true := by simp [coalesces, hr, hf, hk, ha]
  simp [State.hand, hc, hr, coalesced, Config.countCap]

/-- A full log drops a finding that is no repeat: its number is used up, and LOG_OVF is raised. -/
theorem State.hand_full {s : State} {f : Finding} (hc : coalesces s.log f = false) (hl : 8 ≤ s.log.records.length) :
    s.hand f = ({ s with log := { s.log with
      nextSeq := s.log.nextSeq + 1#8, overflow := min 255 (s.log.overflow + 1) } } : State).raise .logOvf := by
  simp [State.hand, hc, Config.logDepth, hl]

/-! ### Weak counts (R85) -/

section
variable {s : State} {src : Source} {g : Nat}

theorem State.weakRise_stays (h : (s.group g).state ≠ .keep ∨ 15 ≤ (s.group g).weak) : s.weakRise src g = s := by
  rw [State.weakRise]
  dsimp only
  refine if_neg fun hr => ?_
  obtain ⟨hk, hw⟩ := hr
  simp only [Config.countCap] at hw
  rcases h with h | h
  · exact h hk
  · omega

/-- The group with its weak count one higher. -/
def State.weaker (s : State) (g : Nat) : State := s.setGroup g { s.group g with weak := (s.group g).weak + 1 }

theorem State.weakRise_below (hk : (s.group g).state = .keep) (hw : (s.group g).weak < 15)
    (ht : (s.group g).weak + 1 ≠ s.config.weakThreshold.toNat) : s.weakRise src g = s.weaker g := by
  simp [State.weakRise, hk, hw, ht, Config.countCap, State.weaker]

theorem State.weakRise_reaches (hk : (s.group g).state = .keep) (hw : (s.group g).weak < 15)
    (ht : (s.group g).weak + 1 = s.config.weakThreshold.toNat) :
    s.weakRise src g = ((s.weaker g).hand (groupFinding .weak src g)).raise .weak := by
  simp [State.weakRise, hk, ht, Config.countCap, State.weaker]
  omega

theorem State.weakRise_frame : unchangedBut [.groups, .log, .events] s (s.weakRise src g) := by
  unfold State.weakRise
  dsimp only
  split
  · have hset : unchangedBut [.groups, .log, .events] s (s.weaker g) := (s.setGroup_frame g _).mono (by simp)
    split
    · exact (hset.andThen (State.hand_frame _ _) (by simp)).andThen (State.raise_frame _ _) (by simp)
    · exact hset
  · exact .refl _ s

theorem State.weaker_group (hwf : s.tablesWf) (hk : (s.group g).state = .keep) (k : Nat) :
    (s.weaker g).group k = if k = g then { state := .keep, weak := (s.group g).weak + 1 } else s.group k := by
  simp only [State.weaker, s.setGroup_group g k _ hwf, hk]

end

/-! ### A corrected word is reported (R83, R85) -/

/-- The report of a corrected word: its CORRECTED finding, and the rise of its group's weak count. -/
def State.reportCorrected (s : State) (src : Source) (w : WordAddr) (y : Syndrome) : State :=
  (s.hand (wordFinding .corrected src w y)).weakRise src (groupOf w)

section
variable {s : State} {src : Source} {w : WordAddr} {y : Syndrome}

theorem State.reportCorrected_frame : unchangedBut [.groups, .log, .events] s (s.reportCorrected src w y) :=
  ((s.hand_frame _).mono (by simp)).andThen State.weakRise_frame (by simp)

/-- `t` shows the weak count of the word's group one higher than in `s`, and no other group changed. -/
def weakened (s t : State) (w : WordAddr) : Prop :=
  t.group (groupOf w) = { state := .keep, weak := (s.group (groupOf w)).weak + 1 } ∧
    ∀ g, g ≠ groupOf w → t.group g = s.group g

theorem weakened_of_groups {t : State} (hwf : s.tablesWf) (hk : (s.group (groupOf w)).state = .keep)
    (ht : t.groups = (s.weaker (groupOf w)).groups) : weakened s t w := by
  have hg : ∀ g, t.group g = (s.weaker (groupOf w)).group g := fun g => congrArg (fun x => tableRead blankGroup x g) ht
  exact ⟨by rw [hg, State.weaker_group hwf hk, if_pos rfl], fun g hne => by rw [hg, State.weaker_group hwf hk, if_neg hne]⟩

/-- A first report that takes the weak count of a KEEP group to a value other than WEAK_THRESHOLD. -/
theorem State.reportCorrected_below (hwf : s.tablesWf) (hk : (s.group (groupOf w)).state = .keep)
    (hw : (s.group (groupOf w)).weak < 15) (ht : (s.group (groupOf w)).weak + 1 ≠ s.config.weakThreshold.toNat)
    (hl : s.log.records.length < 8)
    (hnew : ∀ r, s.log.records.getLast? = some r → r.finding.kind ≠ .corrected ∨ r.finding.addr ≠ some w) :
    weakened s (s.reportCorrected src w y) w ∧
      (s.reportCorrected src w y).log = logged s.log (wordFinding .corrected src w y) ∧
      unchangedBut [.groups, .log] s (s.reportCorrected src w y) := by
  let u : State := { s with log := logged s.log (wordFinding .corrected src w y) }
  have he : s.reportCorrected src w y = u.weaker (groupOf w) := by
    rw [State.reportCorrected, s.hand_eq_logged _ (coalesces_new hnew) hl]
    exact State.weakRise_below (s := u) hk hw ht
  rw [he]
  exact ⟨weakened_of_groups hwf hk rfl, rfl,
    ((s.withLog_frame _).mono (by simp)).andThen (State.setGroup_frame _ _ _) (by simp)⟩

/-- A first report that takes the weak count of a KEEP group to WEAK_THRESHOLD: a WEAK record and the WEAK event besides. -/
theorem State.reportCorrected_reaches (hwf : s.tablesWf) (hk : (s.group (groupOf w)).state = .keep)
    (hw : (s.group (groupOf w)).weak < 15) (ht : (s.group (groupOf w)).weak + 1 = s.config.weakThreshold.toNat)
    (hl : s.log.records.length < 7)
    (hnew : ∀ r, s.log.records.getLast? = some r → r.finding.kind ≠ .corrected ∨ r.finding.addr ≠ some w) :
    weakened s (s.reportCorrected src w y) w ∧
      (s.reportCorrected src w y).log =
        logged (logged s.log (wordFinding .corrected src w y)) (groupFinding .weak src (groupOf w)) ∧
      (s.reportCorrected src w y).events = withEvent s.events .weak := by
  let u : State := { s with log := logged s.log (wordFinding .corrected src w y) }
  let v := u.weaker (groupOf w)
  have hroom : v.log.records.length < 8 := by
    show (s.log.records ++ [_]).length < 8
    rw [List.length_append, List.length_singleton]
    omega
  have he : s.reportCorrected src w y =
      ({ v with log := logged v.log (groupFinding .weak src (groupOf w)) } : State).raise .weak := by
    rw [State.reportCorrected, s.hand_eq_logged _ (coalesces_new hnew) (by omega), ← v.hand_eq_logged _
      (coalesces_of_kind_ne _ _ (by simp [groupFinding])) hroom]
    exact State.weakRise_reaches (s := u) hk hw ht
  rw [he]
  exact ⟨weakened_of_groups hwf hk rfl, rfl, rfl⟩

end

/-! ### One word of a READ burst (R82 to R86) -/

section
variable {s : State} {src : Source} {wb : Bool} {w : WordAddr} {d : Word}

theorem State.checkRead_clean (h : classify (s.word w) = .clean d) : s.checkRead src wb w = s := by
  unfold State.checkRead
  dsimp only
  rw [h]

theorem State.checkRead_uncorrectable (h : classify (s.word w) = .uncorrectable) :
    s.checkRead src wb w = s.hand (wordFinding .uncorrectable src w (syndromeOf (s.word w))) := by
  unfold State.checkRead
  dsimp only
  rw [h]

theorem State.checkRead_corrected (h : classify (s.word w) = .corrected d) : s.checkRead src wb w =
    (if wb then s.setWord w (encodeWord d) else s).reportCorrected src w (syndromeOf (s.word w)) := by
  unfold State.checkRead
  dsimp only
  rw [h]
  rfl

/-- An uncorrectable word at a log with room gives its record and stays. -/
theorem State.checkRead_recorded (h : classify (s.word w) = .uncorrectable) (hl : s.log.records.length < 8) :
    s.checkRead src wb w =
      { s with log := logged s.log (wordFinding .uncorrectable src w (syndromeOf (s.word w))) } := by
  rw [State.checkRead_uncorrectable h]
  exact s.hand_eq_logged _ (coalesces_of_kind_ne _ _ (by simp [wordFinding])) hl

/-- `t` shows word `w` as `x` and every other word as in `s`. -/
def stored (s t : State) (w : WordAddr) (x : Stored) : Prop := t.word w = x ∧ ∀ v, v ≠ w → t.word v = s.word v

theorem stored_of_array {t : State} {x : Stored} (hwf : s.tablesWf) (ht : t.array = (s.setWord w x).array) : stored s t w x := by
  have hword : ∀ v, t.word v = (s.setWord w x).word v := fun v => congrArg (fun a => tableRead blankWord a v.toNat) ht
  exact ⟨by rw [hword, s.setWord_word w w x hwf, if_pos rfl], fun v hv => by rw [hword, s.setWord_word w v x hwf, if_neg hv]⟩

end

theorem burstAddrs_one (w : WordAddr) : burstAddrs w 1 = [w] := by simp [burstAddrs, List.range_succ]

/-! ### HOST_READ_COMPLETE (R101) -/

/-- The end that a read of class `c` gives its cycle (R101). -/
def readEnd (c : ReadClass) : BusEnd :=
  match c.data with
  | some d => .ready (some d)
  | none => .error

/-- The column operation of bank `b` has completed between `s` and `t` (R12, R69). -/
def columnFinished (s t : State) (b : BankNo) : Prop :=
  t.bank b = afterColumn s.config.hold (s.bank b) ∧ t.arb b = afterColumnArb s.config.hold (s.bank b) (s.arb b)

theorem State.finishColumn_finished {s u : State} {b : BankNo} {ps : List Part} (h : unchangedBut ps s u) (hc : .config ∉ ps)
    (hb : .bank b ∉ ps) (ha : .arb b ∉ ps) : columnFinished s (u.finishColumn b) b := by
  have hconfig : u.config = s.config := h .config hc
  have hbank : u.bank b = s.bank b := h (.bank b) hb
  have harb : u.arb b = s.arb b := h (.arb b) ha
  constructor
  · rw [State.finishColumn_bank, if_pos rfl, hconfig, hbank]
  · rw [State.finishColumn_arb, State.columnDone, if_pos rfl, hconfig, hbank, harb]

/-- The parts that the check of a word may touch. -/
def checkParts : List Part := [.array, .groups, .log, .events]

section
variable {s u : State} {b : BankNo} {o : Op} {ps : List Part}

theorem State.completeHostRead_one (hw : o.words = 1) : s.completeHostRead b o =
    ((s.checkRead .host o.writesBack o.addr).finishColumn b).endCycle (readEnd (classify (s.word o.addr))) := by
  simp only [State.completeHostRead, hw, burstAddrs_one, State.checkBurst, List.foldl_cons, List.foldl_nil, State.burstData,
    State.burstClasses, List.map_cons, List.map_nil, readEnd]
  cases classify (s.word o.addr) <;> rfl

/-- HOST_READ_COMPLETE of one word, from what its check leaves. -/
theorem hostRead_ends (hrest : s.atRest) (ho : (s.bank b).op = some o) (hk : o.kind = .hostRead) (hw : o.words = 1)
    (hu : s.checkRead .host o.writesBack o.addr = u) (hf : unchangedBut ps s u) (hps : ps ⊆ checkParts) :
    ∃ t, exec (.hostReadComplete b) s = .next t ∧ t.host = endedPort s.host (readEnd (classify (s.word o.addr))) ∧
      columnFinished s t b ∧ unchangedBut [.host, .bank b, .arb b] u t ∧ unchangedBut ([.host, .bank b, .arb b] ++ ps) s t := by
  have he : s.hostReadCompletes b = (u.finishColumn b).endCycle (readEnd (classify (s.word o.addr))) := by
    rw [← hu, ← State.completeHostRead_one hw]
    exact State.onOp_of_op ho (by simp [hk])
  have hnot : ∀ p, p ∉ checkParts → p ∉ ps := fun p hp hm => hp (hps hm)
  have hhost : u.host = s.host := hf .host (hnot _ (by simp [checkParts]))
  have hend : unchangedBut [.host, .bank b, .arb b] u ((u.finishColumn b).endCycle (readEnd (classify (s.word o.addr)))) :=
    ((u.finishColumn_frame b).mono (by simp)).andThen (State.endCycle_frame _ _) (by simp)
  refine ⟨_, next_happen hrest, ?_⟩
  rw [he]
  refine ⟨?_, ?_, hend, (hf.mono (List.subset_append_right _ _)).andThen hend (by simp)⟩
  · rw [State.endCycle_host, State.finishColumn_host, hhost]
  · exact State.finishColumn_finished hf (hnot _ (by simp [checkParts])) (hnot _ (by simp [checkParts]))
      (hnot _ (by simp [checkParts]))

end

/-- Settles O20: the check of the word in each clause, then the end of the read. -/
theorem hostReadReturnsData : Obligations.HostReadReturnsData := by
  intro s b o hrest ho hk hw
  refine ⟨fun d hd => ?_, fun hun hl => ?_, fun hun hl => ?_, fun d older r hd hcwb hweak hlog hkind haddr => ?_⟩
  · obtain ⟨t, ht, hhost, ⟨hbank, harb⟩, -, hframe⟩ :=
      hostRead_ends hrest ho hk hw (State.checkRead_clean hd) (.refl [] s) (by simp)
    exact ⟨t, ht, by rw [hhost, hd]; rfl, hbank, harb, hframe⟩
  · obtain ⟨t, ht, hhost, ⟨hbank, harb⟩, hafter, hframe⟩ :=
      hostRead_ends hrest ho hk hw (State.checkRead_recorded hun hl) (s.withLog_frame _) (by simp [checkParts])
    exact ⟨t, ht, by rw [hhost, hun]; rfl, hafter .log (by simp), hbank, harb, hframe⟩
  · have hcheck := State.checkRead_uncorrectable (src := .host) (wb := o.writesBack) hun
    have hfull := State.hand_full (f := wordFinding .uncorrectable .host o.addr (syndromeOf (s.word o.addr)))
      (coalesces_of_kind_ne _ _ (by simp [wordFinding])) hl
    obtain ⟨t, ht, hhost, ⟨hbank, harb⟩, hafter, hframe⟩ :=
      hostRead_ends hrest ho hk hw (hcheck.trans hfull) (hfull ▸ s.hand_frame _) (by simp [checkParts])
    exact ⟨t, ht, by rw [hhost, hun]; rfl, hafter .log (by simp), hafter .events (by simp), hbank, harb, hframe⟩
  · have hkeepsWord : o.writesBack = false := by simp [Op.writesBack, hk, hcwb]
    have hcheck : s.checkRead .host o.writesBack o.addr =
        { s with log := { s.log with records := older ++ [{ r with repeats := min 15 (r.repeats + 1) }] } } := by
      rw [State.checkRead_corrected hd, hkeepsWord]
      simp only [Bool.false_eq_true, if_false, State.reportCorrected]
      rw [State.weakRise_stays (by simpa using hweak)]
      exact State.hand_repeat hlog rfl hkind haddr
    obtain ⟨t, ht, hhost, ⟨hbank, harb⟩, hafter, hframe⟩ :=
      hostRead_ends hrest ho hk hw hcheck (s.withLog_frame _) (by simp [checkParts])
    exact ⟨t, ht, by rw [hhost, hd]; rfl, hafter .log (by simp), hbank, harb, hframe⟩

/-- Settles O21: the word is written back, and the report is that of a first finding. -/
theorem correctedReadIsRepaired : Obligations.CorrectedReadIsRepaired := by
  intro s b o d hrest hwf ho hk hw hcwb hd hkeep hweak hl hnew corrected weak atThreshold
  let u := s.setWord o.addr (encodeWord d)
  let y := syndromeOf (s.word o.addr)
  have hcheck : s.checkRead .host o.writesBack o.addr = u.reportCorrected .host o.addr y := by
    rw [State.checkRead_corrected hd, if_pos (by simp [Op.writesBack, hk, hcwb])]
  have hreport : unchangedBut [.groups, .log, .events] u (u.reportCorrected .host o.addr y) := State.reportCorrected_frame
  obtain ⟨t, ht, hhost, ⟨hbank, harb⟩, hafter, hframe⟩ := hostRead_ends hrest ho hk hw hcheck
    (((s.setWords_frame o.addr [encodeWord d]).mono (qs := checkParts) (by simp [checkParts])).andThen hreport
      (by simp [checkParts])) (List.Subset.refl _)
  have hwfu : u.tablesWf := s.setWord_wf o.addr _ hwf
  have harray : t.array = u.array := (hafter .array (by simp)).trans (hreport .array (by simp))
  have hgroup : ∀ g, t.group g = (u.reportCorrected .host o.addr y).group g := group_of_frame hafter (by simp)
  have hlog : t.log = (u.reportCorrected .host o.addr y).log := hafter .log (by simp)
  have hevents : t.events = (u.reportCorrected .host o.addr y).events := hafter .events (by simp)
  obtain ⟨hword, hother⟩ := stored_of_array hwf harray
  have hweakened : weakened u (u.reportCorrected .host o.addr y) o.addr := by
    by_cases hat : atThreshold
    · exact (State.reportCorrected_reaches hwfu hkeep hweak hat hl hnew).1
    · exact (State.reportCorrected_below hwfu hkeep hweak hat (Nat.lt_of_lt_of_le hl (by decide)) hnew).1
  refine ⟨t, ht, by rw [hhost, hd]; rfl, hword, hother, (hgroup _).trans hweakened.1,
    fun g hg => (hgroup g).trans (hweakened.2 g hg), fun hbelow => ?_, fun hat => ?_, hbank, harb, hframe.mono (by simp [checkParts])⟩
  · obtain ⟨-, hlogged, hrest⟩ :=
      State.reportCorrected_below (src := .host) (y := y) hwfu hkeep hweak hbelow (Nat.lt_of_lt_of_le hl (by decide)) hnew
    exact ⟨hlog.trans hlogged, hevents.trans (hrest .events (by simp))⟩
  · obtain ⟨-, hlogged, hraised⟩ := State.reportCorrected_reaches (src := .host) (y := y) hwfu hkeep hweak hat hl hnew
    exact ⟨hlog.trans hlogged, hevents.trans hraised⟩

/-! ### MERGE (R87) -/

/-- The bits of the byte lanes whose byte enables are set. -/
def laneMask (lanes : BitVec 4) : Word :=
  (if lanes.getLsbD 0 then 0x000000FF#32 else 0#32) ||| (if lanes.getLsbD 1 then 0x0000FF00#32 else 0#32) |||
    (if lanes.getLsbD 2 then 0x00FF0000#32 else 0#32) ||| (if lanes.getLsbD 3 then 0xFF000000#32 else 0#32)

theorem mergeLanes_eq (old new : Word) (lanes : BitVec 4) :
    mergeLanes old new lanes = (old &&& ~~~laneMask lanes) ||| (new &&& laneMask lanes) := rfl

theorem laneMask_getLsbD : ∀ (lanes : BitVec 4), ∀ i < 4, ∀ j < 8, (laneMask lanes).getLsbD (8 * i + j) = lanes.getLsbD i := by
  decide

/-- Byte lane `i` of a merged word is that of the new data where its enable is set, and that of the old data elsewhere. -/
theorem mergeLanes_lane (old new : Word) (lanes : BitVec 4) {i : Nat} (hi : i < 4) :
    (mergeLanes old new lanes).extractLsb' (8 * i) 8 =
      if lanes.getLsbD i then new.extractLsb' (8 * i) 8 else old.extractLsb' (8 * i) 8 := by
  refine BitVec.eq_of_getLsbD_eq fun j hj => ?_
  have hlt : 8 * i + j < 32 := by omega
  rw [mergeLanes_eq, BitVec.getLsbD_extractLsb', BitVec.getLsbD_or, BitVec.getLsbD_and, BitVec.getLsbD_and,
    BitVec.getLsbD_not, laneMask_getLsbD lanes i hi j hj]
  cases lanes.getLsbD i <;> simp [hj, hlt]

section
variable {s u : State} {b : BankNo} {o : Op} {e : HostEntry} {ps : List Part} {w : WordAddr} {lanes : BitVec 4} {data d : Word}

theorem State.mergeWord_clean (h : classify (s.word w) = .clean d) :
    s.mergeWord w lanes data = s.setWord w (encodeWord (mergeLanes d data lanes)) := by
  unfold State.mergeWord
  dsimp only
  rw [h]

theorem State.mergeWord_corrected (h : classify (s.word w) = .corrected d) : s.mergeWord w lanes data =
    (s.setWord w (encodeWord (mergeLanes d data lanes))).reportCorrected .host w (syndromeOf (s.word w)) := by
  unfold State.mergeWord
  dsimp only
  rw [h]
  rfl

theorem State.mergeWord_uncorrectable (h : classify (s.word w) = .uncorrectable) (hl : s.log.records.length < 8) :
    s.mergeWord w lanes data =
      { s with log := logged s.log (wordFinding .mergeFailed .host w (syndromeOf (s.word w))) } := by
  unfold State.mergeWord
  dsimp only
  rw [h]
  exact s.hand_eq_logged _ (coalesces_of_kind_ne _ _ (by simp [wordFinding])) hl

/-- MERGE_COMPLETE of the queue's only entry, from what the check unit's part leaves. -/
theorem merge_ends (hrest : s.atRest) (ho : (s.bank b).op = some o) (hk : o.kind = .hostMerge) (hq : s.host.queue = [e])
    (hu : s.mergeWord o.addr e.lanes e.data = u) (hf : unchangedBut ps s u) (hps : ps ⊆ checkParts) :
    ∃ t, exec (.mergeComplete b) s = .next t ∧ t.host = { s.host with queue := [] } ∧ columnFinished s t b ∧
      unchangedBut [.host, .bank b, .arb b] u t ∧ unchangedBut (ps ++ [.host, .bank b, .arb b]) s t := by
  let t := (u.finishColumn b).dropHead
  have hnot : ∀ p, p ∉ checkParts → p ∉ ps := fun p hp hm => hp (hps hm)
  have hhost : t.host = { s.host with queue := [] } := by
    have huhost : u.host = s.host := hf .host (hnot _ (by simp [checkParts]))
    simp [t, State.dropHead, huhost, hq]
  have he : s.mergeCompletes b = t := by
    have hone : s.completeMerge b o = t.placeHead := by simp only [State.completeMerge, hq, hu, t]
    exact (State.onOp_of_op ho (by simp [hk])).trans (hone.trans (t.placeHead_nil (by rw [hhost])))
  have hend : unchangedBut [.host, .bank b, .arb b] u t :=
    ((u.finishColumn_frame b).mono (by simp)).andThen (State.withHost_frame _ _) (by simp)
  refine ⟨t, (next_happen hrest).trans (congrArg _ he), hhost, ?_, hend, (hf.mono (by simp)).andThen hend (by simp)⟩
  exact State.finishColumn_finished hf (hnot _ (by simp [checkParts])) (hnot _ (by simp [checkParts]))
    (hnot _ (by simp [checkParts]))

/-- What the lanes and the check bits of the target are after the merged word has been stored. -/
theorem merged_of_stored {t : State} (h : stored s t w (encodeWord (mergeLanes d data lanes))) :
    (∀ i < 4, (t.word w).data.extractLsb' (8 * i) 8 =
        if lanes.getLsbD i then data.extractLsb' (8 * i) 8 else d.extractLsb' (8 * i) 8) ∧
      (t.word w).check = checkBitsOf (t.word w).data ∧ ∀ v, v ≠ w → t.word v = s.word v := by
  obtain ⟨hword, hother⟩ := h
  rw [hword]
  exact ⟨fun i hi => mergeLanes_lane d data lanes hi, rfl, hother⟩

end

/-- Settles O23: the check unit's part in each clause, then the end of the MERGE. -/
theorem mergeStoresLanes : Obligations.MergeStoresLanes := by
  intro s b o e hrest hwf ho hk hq merged
  refine ⟨fun d hd => ?_, fun d hd hl hnew hkeep hweak hthr => ?_, fun hun hl => ?_⟩
  · obtain ⟨t, ht, hhost, ⟨hbank, harb⟩, hafter, hframe⟩ := merge_ends hrest ho hk hq (State.mergeWord_clean hd)
      (s.setWords_frame o.addr [_]) (by simp [checkParts])
    exact ⟨t, ht, merged_of_stored (stored_of_array hwf (hafter .array (by simp))), hhost, hbank, harb, hframe⟩
  · let u := s.setWord o.addr (encodeWord (mergeLanes d e.data e.lanes))
    let y := syndromeOf (s.word o.addr)
    obtain ⟨⟨hgroup, hothers⟩, hlog, hreport⟩ := State.reportCorrected_below (s := u) (src := .host) (y := y)
      (s.setWord_wf o.addr _ hwf) hkeep hweak hthr hl hnew
    obtain ⟨t, ht, hhost, ⟨hbank, harb⟩, hafter, hframe⟩ := merge_ends hrest ho hk hq (State.mergeWord_corrected hd)
      (((s.setWords_frame o.addr [_]).mono (qs := [.array, .groups, .log]) (by simp)).andThen hreport (by simp))
      (by simp [checkParts])
    have harray : t.array = u.array := (hafter .array (by simp)).trans (hreport .array (by simp))
    have hgroups : ∀ g, t.group g = (u.reportCorrected .host o.addr y).group g := group_of_frame hafter (by simp)
    exact ⟨t, ht, merged_of_stored (stored_of_array hwf harray), hhost, (hgroups _).trans hgroup,
      fun g hg => (hgroups g).trans (hothers g hg), (hafter .log (by simp)).trans hlog, hbank, harb, hframe⟩
  · obtain ⟨t, ht, hhost, ⟨hbank, harb⟩, hafter, hframe⟩ := merge_ends hrest ho hk hq (State.mergeWord_uncorrectable hun hl)
      (s.withLog_frame _) (by simp [checkParts])
    exact ⟨t, ht, hhost, hafter .log (by simp), hbank, harb, hframe⟩

end Sys2Proof.Machine
end

section
-- One thread at a time: the stack of each thread counts against the memory limit of the check.
set_option Elab.async false
/-! SUPPORT. Proofs/ScrubSegments.lean: a segment with at most one word that is not clean, the walk of the scrub cursor, and the search for a row. -/

namespace Sys2Proof.Machine

/-! ### A burst with one word that is not clean (R82) -/

theorem burstAddrs_nodup (w : WordAddr) {n : Nat} (hn : n ≤ 2 ^ 22) : (burstAddrs w n).Nodup := by
  refine List.Nodup.map_on (fun j hj k hk he => ?_) List.nodup_range
  have hjk : BitVec.ofNat 22 j = BitVec.ofNat 22 k := (BitVec.add_right_inj w).1 he
  have hnat := congrArg BitVec.toNat hjk
  simp only [List.mem_range] at hj hk
  simp only [BitVec.toNat_ofNat] at hnat
  omega

/-- The check of a burst whose other words are clean is the check of its one word `x`. -/
theorem State.checkBurst_lone {s : State} {src : Source} {wb : Bool} {ws : List WordAddr} {x : WordAddr} (hx : x ∈ ws)
    (hnodup : ws.Nodup) (hclean : ∀ w ∈ ws, w ≠ x → ∃ d, classify (s.word w) = .clean d)
    (hsame : ∀ w, w ≠ x → (s.checkRead src wb x).word w = s.word w) : s.checkBurst src wb ws = s.checkRead src wb x := by
  obtain ⟨before, after, rfl⟩ := List.append_of_mem hx
  have hne : ∀ w, w ∈ before ∨ w ∈ after → w ≠ x := by
    rintro w hw rfl
    exact (List.nodup_cons.1 (List.nodup_middle.1 hnodup)).1 (List.mem_append.2 hw)
  have hbefore : s.checkBurst src wb before = s :=
    s.checkBurst_clean src wb before fun w hw => hclean w (by simp [hw]) (hne w (.inl hw))
  have hafter : (s.checkRead src wb x).checkBurst src wb after = s.checkRead src wb x :=
    State.checkBurst_clean _ src wb after fun w hw => by
      rw [hsame w (hne w (.inr hw))]
      exact hclean w (by simp [hw]) (hne w (.inr hw))
  rw [State.checkBurst, List.foldl_append, List.foldl_cons, ← State.checkBurst, ← State.checkBurst, hbefore, hafter]

/-! ### The walk of the cursor (R90, R93, R94) -/

/-- The scrubber with its cursor at segment 0 of the next row, a pass counted at the wrap. -/
def nextRowOf (c : Scrubber) : Scrubber :=
  if c.row = 2047#11 then
    { c with bank := c.bank + 1, row := 0#11, segment := 0#5, pass := if c.bank = 3 then c.pass + 1#16 else c.pass }
  else { c with row := c.row + 1#11, segment := 0#5 }

/-- The scrubber with its cursor at the next position. -/
def nextSegmentOf (c : Scrubber) : Scrubber :=
  if c.segment = 31#5 then nextRowOf c else { c with segment := c.segment + 1#5 }

theorem State.nextScrubSegment_eq (s : State) : s.nextScrubSegment = { s with scrub := nextSegmentOf s.scrub } := by
  unfold State.nextScrubSegment nextSegmentOf State.nextScrubRow nextRowOf
  dsimp only
  split
  · split
    · split <;> rfl
    · rfl
  · rfl

@[simp] theorem nextSegmentOf_state (c : Scrubber) : (nextSegmentOf c).state = c.state := by
  unfold nextSegmentOf nextRowOf
  split <;> [(split <;> rfl); rfl]

@[simp] theorem nextSegmentOf_credits (c : Scrubber) : (nextSegmentOf c).credits = c.credits := by
  unfold nextSegmentOf nextRowOf
  split <;> [(split <;> rfl); rfl]

section
variable {c : Scrubber}

theorem nextSegmentOf_within (h : c.segment ≠ 31#5) : nextSegmentOf c = { c with segment := c.segment + 1#5 } := if_neg h

theorem nextSegmentOf_row (h : c.segment = 31#5) (hr : c.row ≠ 2047#11) :
    nextSegmentOf c = { c with segment := 0#5, row := c.row + 1#11 } :=
  (if_pos h).trans (if_neg hr)

theorem nextSegmentOf_bank (h : c.segment = 31#5) (hr : c.row = 2047#11) (hb : c.bank ≠ 3) :
    nextSegmentOf c = { c with segment := 0#5, row := 0#11, bank := c.bank + 1 } := by
  simp [nextSegmentOf, nextRowOf, h, hr, hb]

theorem nextSegmentOf_wrap (h : c.segment = 31#5) (hr : c.row = 2047#11) (hb : c.bank = 3) :
    nextSegmentOf c = { c with segment := 0#5, row := 0#11, bank := 0, pass := c.pass + 1#16 } := by
  simp [nextSegmentOf, nextRowOf, h, hr, hb]

end

/-! ### SCRUB_SEGMENT_COMPLETE without a search (R94, R95, R96) -/

/-- The scrubber in IDLE. -/
def idled (c : Scrubber) : Scrubber := { c with state := .idle }

/-- `t` shows the column operation of bank `b` of `s` completed after the check of its words has left `u`, and only the parts `ps` differ from `u`. -/
structure segmentEnded (s u t : State) (b : BankNo) (ps : List Part) : Prop where
  bank : t.bank b = afterColumn s.config.hold (s.bank b)
  arb : ∀ c, t.arb c = s.columnDone b c
  frame : unchangedBut ps u t

/-- At rest `s` has the scrub segment `o` in flight at bank `b`, and the check of its words leaves `u`. -/
structure segmentChecked (s u : State) (b : BankNo) (o : Op) : Prop where
  rest : s.atRest
  op : (s.bank b).op = some o
  kind : o.kind = .scrubSegment
  checked : s.checkBurst .scrub true (burstAddrs o.addr o.words) = u
  frame : unchangedBut checkParts s u

/-- The bank has finished, and the scrubber is as `c`. -/
def State.segmentDone (u : State) (b : BankNo) (c : Scrubber) : State := { u.finishColumn b with scrub := c }

section
variable {s u : State} {b : BankNo} {o : Op}

theorem segmentEnded_finishColumn (h : segmentChecked s u b o) : segmentEnded s u (u.finishColumn b) b [.bank b, .arb b] := by
  have hconfig : u.config = s.config := h.frame .config (by simp [checkParts])
  have hbank : u.bank b = s.bank b := h.frame (.bank b) (by simp [checkParts])
  have harb : ∀ c, u.arb c = s.arb c := fun c => h.frame (.arb c) (by simp [checkParts])
  refine ⟨?_, fun c => ?_, u.finishColumn_frame b⟩
  · rw [State.finishColumn_bank, if_pos rfl, hconfig, hbank]
  · rw [State.finishColumn_arb, State.columnDone, State.columnDone, hconfig, hbank, harb, harb]

theorem segmentEnded_done (h : segmentChecked s u b o) (c : Scrubber) :
    segmentEnded s u (u.segmentDone b c) b [.bank b, .arb b, .scrub] := by
  obtain ⟨hbank, harb, hframe⟩ := segmentEnded_finishColumn h
  exact ⟨hbank, harb, (hframe.mono (by simp)).andThen (State.withScrub_frame _ c) (by simp)⟩

/-- SCRUB_SEGMENT_COMPLETE, from what the check of the segment's words leaves. -/
theorem scrub_ends (h : segmentChecked s u b o) :
    exec (.scrubSegmentComplete b) s = .next (if o.residual then u.finishColumn b
      else if s.scrub.state = .held then u.segmentDone b (nextSegmentOf s.scrub)
      else (u.segmentDone b (idled (nextSegmentOf s.scrub))).searchScrub) := by
  have he : s.scrubSegmentCompletes b = s.completeScrub b o := State.onOp_of_op h.op (by simp [h.kind])
  have hscrub : u.scrub = s.scrub := h.frame .scrub (by simp [checkParts])
  refine (next_happen h.rest).trans (congrArg _ (he.trans ?_))
  simp only [State.completeScrub, h.checked, State.nextScrubSegment_eq, State.finishColumn_scrub, hscrub, nextSegmentOf_state]
  rfl

/-- A segment that soft reset has disowned moves nothing. -/
theorem scrub_disowned (h : segmentChecked s u b o) (hres : o.residual = true) :
    ∃ t, exec (.scrubSegmentComplete b) s = .next t ∧ segmentEnded s u t b [.bank b, .arb b] :=
  ⟨_, (scrub_ends h).trans (congrArg _ (if_pos hres)), segmentEnded_finishColumn h⟩

/-- A held scrubber moves its cursor and stays HELD. -/
theorem scrub_held (h : segmentChecked s u b o) (hres : o.residual = false) (hheld : s.scrub.state = .held) :
    ∃ t, exec (.scrubSegmentComplete b) s = .next t ∧ segmentEnded s u t b [.bank b, .arb b, .scrub] ∧
      t.scrub = nextSegmentOf s.scrub :=
  ⟨_, (scrub_ends h).trans (congrArg _ ((if_neg (by simp [hres])).trans (if_pos hheld))), segmentEnded_done h _, rfl⟩

/-- An ACTIVE scrubber moves its cursor and searches from IDLE. -/
theorem scrub_searches (h : segmentChecked s u b o) (hres : o.residual = false) (hactive : s.scrub.state = .active) :
    ∃ v, exec (.scrubSegmentComplete b) s = .next v.searchScrub ∧ segmentEnded s u v b [.bank b, .arb b, .scrub] ∧
      v.scrub = idled (nextSegmentOf s.scrub) :=
  ⟨_, (scrub_ends h).trans (congrArg _ ((if_neg (by simp [hres])).trans (if_neg (by simp [hactive])))), segmentEnded_done h _, rfl⟩

/-- Without a credit it goes to IDLE. -/
theorem scrub_rests (h : segmentChecked s u b o) (hres : o.residual = false) (hactive : s.scrub.state = .active)
    (hcredits : s.scrub.credits = 0) :
    ∃ t, exec (.scrubSegmentComplete b) s = .next t ∧ segmentEnded s u t b [.bank b, .arb b, .scrub] ∧
      t.scrub = idled (nextSegmentOf s.scrub) := by
  obtain ⟨v, hexec, hended, hscrub⟩ := scrub_searches h hres hactive
  have hnone : v.scrub.credits = 0 := by rw [hscrub, idled, nextSegmentOf_credits, hcredits]
  exact ⟨v, by rw [hexec, v.searchScrub_of_no_credit hnone], hended, hscrub⟩

end

/-! ### The search (R92) -/

/-- The scrubber with its cursor at segment 0 of the first row of group `g`. -/
def firstRowOf (c : Scrubber) (g : Nat) : Scrubber :=
  { c with bank := bankOfGroup g, row := BitVec.ofNat 11 (8 * (g % 256)), segment := 0#5 }

theorem State.moveScrub_eq (s : State) (g : Nat) : s.moveScrub g = { s with scrub := firstRowOf s.scrub g } := by
  rw [State.moveScrub, firstRowOf, Nat.mul_comm]

/-- The request for the segment at the cursor. -/
def scrubRequestOf (c : Scrubber) : Request :=
  { kind := .scrubSegment, addr := scrubSegmentBase c.bank c.row c.segment, words := 16 }

theorem groupOfRow_lt (b : BankNo) (row : RowNo) : groupOfRow b row < 1024 := by
  have hb := b.isLt
  have hrow := row.isLt
  unfold groupOfRow
  omega

section
variable {s : State}

theorem State.scrubTarget_iff (g : Nat) :
    s.scrubTarget g = true ↔ (s.group g).state = .keep ∧ s.isReady (bankOfGroup g) = true := by
  simp [State.scrubTarget]

theorem State.findScrub_here (h : s.scrubTarget s.scrubGroup = true) : s.findScrub = some s := by
  simp [State.findScrub, h]

/-- The first qualifying group after the cursor's. -/
theorem State.findScrub_after {g : Nat} (hhere : s.scrubTarget s.scrubGroup = false) (hlt : s.scrubGroup < g) (hg : g < 1024)
    (ht : s.scrubTarget g = true) (hbetween : ∀ k, s.scrubGroup < k → k < g → s.scrubTarget k = false) :
    s.findScrub = some { s with scrub := firstRowOf s.scrub g } := by
  have hfind : (List.range' (s.scrubGroup + 1) (1023 - s.scrubGroup)).find? (fun k => s.scrubTarget k) = some g := by
    refine List.find?_range'_eq_some.2 ⟨ht, List.mem_range'_1.2 ⟨hlt, by omega⟩, fun k hk hkg => ?_⟩
    simp [hbetween k hk hkg]
  simp [State.findScrub, hhere, hfind, State.moveScrub_eq]

/-- None qualifies from the cursor's group to the last: the search goes on across the wrap. -/
theorem State.findScrub_wraps (hhere : s.scrubTarget s.scrubGroup = false)
    (hafter : ∀ k, s.scrubGroup < k → k < 1024 → s.scrubTarget k = false) : s.findScrub =
      ((List.range s.scrubGroup).find? fun k => s.scrubTarget k).map fun g =>
        { s with scrub := { firstRowOf s.scrub g with pass := s.scrub.pass + 1#16 } } := by
  have hlt : s.scrubGroup < 1024 := groupOfRow_lt _ _
  have hnone : (List.range' (s.scrubGroup + 1) (1023 - s.scrubGroup)).find? (fun k => s.scrubTarget k) = none := by
    refine List.find?_range'_eq_none.2 fun k hk hkl => ?_
    simp [hafter k hk (by omega)]
  cases hfind : (List.range s.scrubGroup).find? (fun k => s.scrubTarget k) with
  | none => simp [State.findScrub, hhere, hnone, hfind]
  | some g => simp [State.findScrub, hhere, hnone, hfind, State.moveScrub_eq, State.countPass, firstRowOf]

/-- The first qualifying group of the array, across the wrap. -/
theorem State.findScrub_before {g : Nat} (hhere : s.scrubTarget s.scrubGroup = false) (hlt : g < s.scrubGroup)
    (ht : s.scrubTarget g = true) (hbelow : ∀ k < g, s.scrubTarget k = false)
    (hafter : ∀ k, s.scrubGroup < k → k < 1024 → s.scrubTarget k = false) :
    s.findScrub = some { s with scrub := { firstRowOf s.scrub g with pass := s.scrub.pass + 1#16 } } := by
  have hfind : (List.range s.scrubGroup).find? (fun k => s.scrubTarget k) = some g :=
    List.find?_range_eq_some.2 ⟨ht, List.mem_range.2 hlt, fun k hk => by simp [hbelow k hk]⟩
  rw [State.findScrub_wraps hhere hafter, hfind, Option.map_some]

theorem State.findScrub_none (h : ∀ g < 1024, s.scrubTarget g = false) : s.findScrub = none := by
  have hlt : s.scrubGroup < 1024 := groupOfRow_lt _ _
  have hfind : (List.range s.scrubGroup).find? (fun k => s.scrubTarget k) = none :=
    List.find?_eq_none.2 fun k hk => by simp [h k ((List.mem_range.1 hk).trans hlt)]
  rw [State.findScrub_wraps (h _ hlt) fun k _ hk => h k hk, hfind, Option.map_none]

/-- A search from IDLE with a credit that finds the position of `c`: the segment there is asked of its bank, and the scrubber waits. -/
theorem State.searchScrub_finds {c : Scrubber} (hidle : s.scrub.state = .idle) (hcredits : 1 ≤ s.scrub.credits)
    (hfind : s.findScrub = some { s with scrub := c }) :
    s.searchScrub.scrub = { c with state := .wait } ∧
      (∀ a, s.searchScrub.arb a = if a = c.bank then { s.arb a with scrub := some (scrubRequestOf c) } else s.arb a) ∧
      unchangedBut (.scrub :: allArbs) s s.searchScrub := by
  let u : State := { s with scrub := c }
  have he : s.searchScrub = u.placeScrub := by simp only [State.searchScrub, hidle, hcredits, and_self, if_true, hfind, u]
  rw [he]
  refine ⟨rfl, fun a => ?_, ?_⟩
  · refine (State.setArb_arb u c.bank a _).trans ?_
    split
    · rename_i ha
      rw [ha]
      rfl
    · rfl
  · exact (((s.withScrub_frame c).mono (by simp)).andThen (State.setArb_frame u c.bank _) (by simp)).andThen
      (State.withScrub_frame _ _) (by simp)

theorem State.searchScrub_finds_none (hfind : s.findScrub = none) : s.searchScrub = s := by
  rw [State.searchScrub, hfind]
  exact ite_self s

end

/-! ### The clauses -/

section
variable {s : State} {b : BankNo} {o : Op}

theorem segmentChecked_clean (hrest : s.atRest) (ho : (s.bank b).op = some o) (hk : o.kind = .scrubSegment) (hw : o.words = 16)
    (hclean : ∀ w ∈ burstAddrs o.addr 16, ∃ d, classify (s.word w) = .clean d) : segmentChecked s s b o :=
  ⟨hrest, ho, hk, by rw [hw]; exact s.checkBurst_clean _ _ _ hclean, .refl _ s⟩

/-- What a search that finds the position of `c` leaves of a completed segment whose words were clean. -/
theorem scrub_waits {v : State} {c : Scrubber} (hv : segmentEnded s s v b [.bank b, .arb b, .scrub]) (hidle : v.scrub.state = .idle)
    (hcredits : 1 ≤ v.scrub.credits) (hfind : v.findScrub = some { v with scrub := c }) :
    v.searchScrub.scrub = { c with state := .wait } ∧
      (v.searchScrub.bank b = afterColumn s.config.hold (s.bank b) ∧
        unchangedBut (.bank b :: .scrub :: allArbs) s v.searchScrub) ∧
      ∀ a, v.searchScrub.arb a =
        if a = c.bank then { s.columnDone b a with scrub := some (scrubRequestOf c) } else s.columnDone b a := by
  obtain ⟨hscrub, harb, hframe⟩ := State.searchScrub_finds hidle hcredits hfind
  refine ⟨hscrub, ⟨(hframe (.bank b) (by simp [allArbs])).trans hv.bank, ?_⟩, fun a => by rw [harb, hv.arb]⟩
  exact (hv.frame.mono (by simp)).andThen hframe (by simp)

theorem segmentEnded.isReady {u v : State} {ps : List Part} (h : segmentEnded s u v b ps) (hf : ∀ c, c ≠ b → v.bank c = s.bank c)
    (c : BankNo) : v.isReady c = s.isReady c := by
  by_cases hc : c = b
  · rw [hc, State.isReady, h.bank, afterColumn_state, State.isReady]
  · rw [State.isReady, hf c hc, State.isReady]

end

/-- At rest the ACTIVE scrubber, with no credit left, has the segment `o` in flight at bank `b`, no word of which but `x` needs anything; and the
log has room. -/
structure scrubsLone (s : State) (b : BankNo) (o : Op) (x : WordAddr) : Prop where
  rest : s.atRest
  op : (s.bank b).op = some o
  kind : o.kind = .scrubSegment
  words : o.words = 16
  residual : o.residual = false
  active : s.scrub.state = .active
  credits : s.scrub.credits = 0
  mem : x ∈ burstAddrs o.addr 16
  clean : ∀ w ∈ burstAddrs o.addr 16, w ≠ x → ∃ d, classify (s.word w) = .clean d
  room : s.log.records.length < 8

section
variable {s u : State} {b : BankNo} {o : Op} {x : WordAddr} {d : Word}

/-- The check of such a segment is that of its one word, and the scrubber rests after it. -/
theorem scrubsLone.rests (h : scrubsLone s b o x) (hu : s.checkRead .scrub true x = u) (hsame : ∀ w, w ≠ x → u.word w = s.word w)
    (hf : unchangedBut checkParts s u) :
    ∃ t, exec (.scrubSegmentComplete b) s = .next t ∧ segmentEnded s u t b [.bank b, .arb b, .scrub] ∧
      t.scrub = idled (nextSegmentOf s.scrub) := by
  subst hu
  have hchecked : s.checkBurst .scrub true (burstAddrs o.addr o.words) = s.checkRead .scrub true x := by
    rw [h.words]
    exact State.checkBurst_lone h.mem (burstAddrs_nodup _ (by decide)) h.clean hsame
  exact scrub_rests ⟨h.rest, h.op, h.kind, hchecked, hf⟩ h.residual h.active h.credits

/-- A corrected word of the segment is written back and reported. -/
theorem scrubsLone.repairs (h : scrubsLone s b o x) (hwf : s.tablesWf) (hd : classify (s.word x) = .corrected d)
    (hkeep : (s.group (groupOf x)).state = .keep) (hweak : (s.group (groupOf x)).weak < 15)
    (hthr : (s.group (groupOf x)).weak + 1 ≠ s.config.weakThreshold.toNat)
    (hnew : ∀ r, s.log.records.getLast? = some r → r.finding.kind ≠ .corrected ∨ r.finding.addr ≠ some x) :
    ∃ t, exec (.scrubSegmentComplete b) s = .next t ∧ stored s t x (encodeWord d) ∧
      t.log = logged s.log (wordFinding .corrected .scrub x (syndromeOf (s.word x))) ∧ weakened s t x ∧
      t.bank b = afterColumn s.config.hold (s.bank b) ∧ t.arb b = s.columnDone b b ∧
      t.scrub = idled (nextSegmentOf s.scrub) ∧ unchangedBut [.bank b, .arb b, .scrub, .array, .groups, .log] s t := by
  let u := s.setWord x (encodeWord d)
  let v := u.reportCorrected .scrub x (syndromeOf (s.word x))
  obtain ⟨⟨hgroup, hothers⟩, hlog, hreport⟩ := State.reportCorrected_below (s := u) (src := .scrub)
    (y := syndromeOf (s.word x)) (s.setWord_wf x _ hwf) hkeep hweak hthr h.room hnew
  have hframe : unchangedBut [.array, .groups, .log] s v :=
    ((s.setWords_frame x [encodeWord d]).mono (by simp)).andThen hreport (by simp)
  have hsame : ∀ w, w ≠ x → v.word w = s.word w := (stored_of_array hwf (hreport .array (by simp))).2
  obtain ⟨t, ht, hended, hscrub⟩ := h.rests (State.checkRead_corrected hd) hsame (hframe.mono (by simp [checkParts]))
  have harray : t.array = u.array := (hended.frame .array (by simp)).trans (hreport .array (by simp))
  have hgroups : ∀ g, t.group g = v.group g := group_of_frame hended.frame (by simp)
  exact ⟨t, ht, stored_of_array hwf harray, (hended.frame .log (by simp)).trans hlog,
    ⟨(hgroups _).trans hgroup, fun g hg => (hgroups g).trans (hothers g hg)⟩, hended.bank, hended.arb b, hscrub,
    (hframe.mono (by simp)).andThen hended.frame (by simp)⟩

/-- An uncorrectable word of the segment is recorded and left. -/
theorem scrubsLone.records (h : scrubsLone s b o x) (hun : classify (s.word x) = .uncorrectable) :
    ∃ t, exec (.scrubSegmentComplete b) s = .next t ∧
      t.log = logged s.log (wordFinding .uncorrectable .scrub x (syndromeOf (s.word x))) ∧
      t.bank b = afterColumn s.config.hold (s.bank b) ∧ t.arb b = s.columnDone b b ∧
      t.scrub = idled (nextSegmentOf s.scrub) ∧ unchangedBut [.bank b, .arb b, .scrub, .log] s t := by
  obtain ⟨t, ht, hended, hscrub⟩ := h.rests (State.checkRead_recorded hun h.room) (fun _ _ => rfl)
    ((s.withLog_frame _).mono (by simp [checkParts]))
  exact ⟨t, ht, hended.frame .log (by simp), hended.bank, hended.arb b, hscrub,
    ((s.withLog_frame _).mono (by simp)).andThen hended.frame (by simp)⟩

end

/-- Settles O25: the check of the segment's words in each clause, then the walk of the cursor and the search. -/
theorem scrubSegmentMovesTheCursor : Obligations.ScrubSegmentMovesTheCursor := by
  intro s b o hrest ho hk hw finished clean
  refine ⟨fun hres hclean => ?_, fun hres hclean hheld => ?_, fun hres hclean hactive hcredits => ?_, ?_, ?_⟩
  · obtain ⟨t, ht, hended⟩ := scrub_disowned (segmentChecked_clean hrest ho hk hw hclean) hres
    exact ⟨t, ht, hended.arb b, hended.bank, hended.frame⟩
  · obtain ⟨t, ht, hended, hscrub⟩ := scrub_held (segmentChecked_clean hrest ho hk hw hclean) hres hheld
    exact ⟨t, ht, fun h => hscrub.trans (nextSegmentOf_within h), hended.arb b, hended.bank, hended.frame⟩
  · obtain ⟨t, ht, hended, hscrub⟩ := scrub_rests (segmentChecked_clean hrest ho hk hw hclean) hres hactive hcredits
    refine ⟨t, ht, fun h => ?_, fun h hr => ?_, fun h hr hb => ?_, fun h hr hb => ?_, hended.arb b, hended.bank, hended.frame⟩
    · rw [hscrub, nextSegmentOf_within h, idled]
    · rw [hscrub, nextSegmentOf_row h hr, idled]
    · rw [hscrub, nextSegmentOf_bank h hr hb, idled]
    · rw [hscrub, nextSegmentOf_wrap h hr hb, idled, hcredits]
  · intro x d hwf hres hx hclean hactive hcredits hl hnew found goesOn
    have hgoesOn : ∀ t : State, t.scrub = idled (nextSegmentOf s.scrub) → goesOn t := fun t ht h => by
      rw [ht, nextSegmentOf_within h, idled]
    have hlone : scrubsLone s b o x := ⟨hrest, ho, hk, hw, hres, hactive, hcredits, hx, hclean, hl⟩
    refine ⟨fun hd hkeep hweak hthr => ?_, fun hun => ?_⟩
    · obtain ⟨t, ht, ⟨hword, hothers⟩, hlog, ⟨hgroup, hgroups⟩, hbank, harb, hscrub, hframe⟩ :=
        hlone.repairs hwf hd hkeep hweak hthr hnew
      exact ⟨t, ht, hword, hothers, hlog, hgroup, hgroups, harb, hgoesOn t hscrub, hbank, hframe⟩
    · obtain ⟨t, ht, hlog, hbank, harb, hscrub, hframe⟩ := hlone.records hun
      exact ⟨t, ht, hlog, harb, hgoesOn t hscrub, hbank, hframe⟩
  · intro hres hclean hactive hcredits hseg qualifies here request waits firstRow
    obtain ⟨v, hexec, hended, hscrub⟩ := scrub_searches (segmentChecked_clean hrest ho hk hw hclean) hres hactive
    have hcursor : v.scrub = { s.scrub with segment := s.scrub.segment + 1#5, state := .idle } := by
      rw [hscrub, nextSegmentOf_within hseg, idled]
    have hidle : v.scrub.state = .idle := by rw [hcursor]
    have hcredit : 1 ≤ v.scrub.credits := by rw [hcursor]; exact hcredits
    have hhere : v.scrubGroup = here := by rw [State.scrubGroup, hcursor]
    have hqualifies : ∀ g, v.scrubTarget g = true ↔ qualifies g := fun g => by
      rw [State.scrubTarget_iff, group_of_frame hended.frame (by simp),
        hended.isReady fun c hc => hended.frame (.bank c) (by simp [hc])]
    have hnot : ∀ g, ¬qualifies g → v.scrubTarget g = false := fun g h => by
      rw [← Bool.not_eq_true, hqualifies]
      exact h
    refine ⟨fun hq => ⟨_, hexec, ?_⟩, fun g hn hlt hg hq hbetween => ⟨_, hexec, ?_⟩, fun g hn hlt hq hbelow hafter => ⟨_, hexec, ?_⟩,
      fun hn => ⟨_, hexec, ?_⟩⟩
    · obtain ⟨hwait, hfinished, harb⟩ := scrub_waits (c := v.scrub) hended hidle hcredit
        (State.findScrub_here (by rw [hhere]; exact (hqualifies _).2 hq))
      rw [hcursor] at hwait harb
      exact ⟨hwait, hfinished, harb⟩
    · obtain ⟨hwait, hfinished, harb⟩ := scrub_waits hended hidle hcredit
        (State.findScrub_after (hnot _ (hhere ▸ hn)) (hhere ▸ hlt) hg ((hqualifies g).2 hq)
          fun k hk hkg => hnot k (hbetween k (hhere ▸ hk) hkg))
      rw [hcursor] at hwait harb
      exact ⟨hwait, hfinished, harb⟩
    · obtain ⟨hwait, hfinished, harb⟩ := scrub_waits hended hidle hcredit
        (State.findScrub_before (hnot _ (hhere ▸ hn)) (hhere ▸ hlt) ((hqualifies g).2 hq) (fun k hk => hnot k (hbelow k hk))
          fun k hk hk' => hnot k (hafter k (hhere ▸ hk) hk'))
      rw [hcursor] at hwait harb
      exact ⟨hwait, hfinished, harb⟩
    · rw [State.searchScrub_finds_none (State.findScrub_none fun g hg => hnot g (hn g hg))]
      exact ⟨hcursor, hended.arb b, hended.bank, hended.frame⟩

end Sys2Proof.Machine
end

section
-- One thread at a time: the stack of each thread counts against the memory limit of the check.
set_option Elab.async false
/-! SUPPORT. Proofs/HostCycles.lean: a read of the memory window and the write queue it meets, and a write to a register without a row of its own. -/

namespace Sys2Proof.Machine

/-! ### The write queue as a read meets it (R100) -/

section
variable {s : State} {w : WordAddr}

theorem State.newestMatch_none (h : ∀ e ∈ s.host.queue, e.addr ≠ w) : s.newestMatch w = none := by
  have hnone : (s.host.queue.filter fun e => e.addr == w) = [] :=
    List.filter_eq_nil_iff.2 fun e he => by simpa using h e he
  rw [State.newestMatch, hnone, List.getLast?_nil]

/-- The newest matching entry is the one behind which no entry matches. -/
theorem State.newestMatch_split {older newer : List HostEntry} {e : HostEntry} (hq : s.host.queue = older ++ e :: newer)
    (he : e.addr = w) (hn : ∀ f ∈ newer, f.addr ≠ w) : s.newestMatch w = some e := by
  have hnewer : (newer.filter fun f => f.addr == w) = [] := List.filter_eq_nil_iff.2 fun f hf => by simpa using hn f hf
  rw [State.newestMatch, hq, List.filter_append, List.filter_cons_of_pos (by simpa using he), hnewer,
    List.getLast?_concat]

theorem State.startRead_unmatched (h : s.newestMatch w = none) : s.startRead w = s.readToArray w := by
  rw [State.startRead, h]

theorem State.startRead_full {e : HostEntry} (h : s.newestMatch w = some e) (hl : e.lanes = 15#4) :
    s.startRead w = s.endCycle (.ready (some e.data)) := by
  simp [State.startRead, h, HostEntry.full, hl]

theorem State.startRead_partial {e : HostEntry} (h : s.newestMatch w = some e) (hl : e.lanes ≠ 15#4) :
    s.startRead w = s.holdCycle (.readDrain w) := by
  simp [State.startRead, h, HostEntry.full, hl]

/-! ### MEMORY_READ (R99) -/

theorem memoryRead_unserved (hfree : s.busFree) (h : ¬s.served w) : exec (.memoryRead w) s = .next (s.endCycle .error) :=
  (next_busCycle hfree).trans (by rw [if_neg fun ho => h ((s.windowOpen_iff w).1 ho)])

theorem memoryRead_served (hfree : s.busFree) (h : s.served w) : exec (.memoryRead w) s = .next (s.startRead w) :=
  (next_busCycle hfree).trans (by rw [if_pos ((s.windowOpen_iff w).2 h)])

end

/-- Settles O43. -/
theorem memoryReadMeetsTheQueue : Obligations.MemoryReadMeetsTheQueue := by
  intro s w hfree
  refine ⟨⟨_, next_busCycle hfree, rfl, s.endCycle_frame _⟩,
    fun hs => ⟨_, memoryRead_unserved hfree hs, rfl, s.endCycle_frame _⟩, fun hs hnone => ⟨_, memoryRead_served hfree hs, ?_⟩,
    fun older e newer hs hq he hn => ⟨fun hl => ⟨_, memoryRead_served hfree hs, ?_⟩,
      fun hl => ⟨_, memoryRead_served hfree hs, ?_⟩⟩⟩
  · obtain ⟨-, hready, -⟩ := hs
    rw [State.startRead_unmatched (State.newestMatch_none hnone)]
    exact State.readToArray_ready hready
  · rw [State.startRead_full (State.newestMatch_split hq he hn) hl]
    exact ⟨rfl, s.endCycle_frame _⟩
  · rw [State.startRead_partial (State.newestMatch_split hq he hn) hl]
    exact ⟨rfl, s.withHost_frame _⟩

/-! ### REGISTER_WRITE (R107, R108) -/

/-- A number in the place of a fence register of a channel is a fence register (12.1). -/
theorem fence_mem_ownRowRegisters : ∀ reg : BitVec 6, 0x20 ≤ reg.toNat → reg.toNat % 8 = 4 ∨ reg.toNat % 8 = 5 →
    reg ∈ ownRowRegisters := by decide

/-- A register whose writes have no row of their own stores nothing, ARG apart: it is read-only, or there is none (R107). -/
theorem State.storeRegister_unlisted (s : State) {reg : BitVec 6} (x : Word) (h : reg ∉ ownRowRegisters) (harg : reg ≠ 4#6) :
    s.storeRegister reg x = s := by
  have hne : ∀ k : BitVec 6, k ∈ 4#6 :: ownRowRegisters → reg.toNat ≠ k.toNat := fun k hk he => by
    rw [← BitVec.eq_of_toNat_eq he] at hk
    exact (List.mem_cons.1 hk).elim harg h
  unfold State.storeRegister
  split
  case h_1 hk => exact absurd hk (hne 0x01#6 (by decide))
  case h_2 hk => exact absurd hk (hne 0x02#6 (by decide))
  case h_3 hk => exact absurd hk (hne 0x04#6 (by decide))
  case h_4 hk => exact absurd hk (hne 0x06#6 (by decide))
  case h_5 hk => exact absurd hk (hne 0x07#6 (by decide))
  case h_6 hk => exact absurd hk (hne 0x0B#6 (by decide))
  case h_7 =>
    rw [if_neg fun hf => h (fence_mem_ownRowRegisters reg hf.1 (.inl hf.2)),
      if_neg fun hf => h (fence_mem_ownRowRegisters reg hf.1 (.inr hf.2))]

/-- A REGISTER_WRITE ends with HRDY once the register's owner has stored the word. -/
theorem registerWrite_stores {s : State} {reg : BitVec 6} {x : Word} (hfree : s.busFree) (h : reg ≠ 3#6) :
    exec (.registerWrite reg x) s = .next ((s.storeRegister reg x).endCycle (.ready none)) :=
  (next_busCycle hfree).trans (by rw [State.registerCycle, if_neg h])

theorem State.withArg_frame (s : State) (x : Word) : unchangedBut [.arg] s { s with arg := x } := by
  intro p hp
  cases p with
  | arg => simp at hp
  | _ => rfl

/-- Settles O45. -/
theorem idIsConstant : Obligations.IdIsConstant :=
  ⟨fun _ => rfl, fun s _ hfree => ⟨_, registerWrite_stores hfree (by decide), rfl, s.endCycle_frame _⟩⟩

/-- Settles O46. -/
theorem registerWriteStoresArg : Obligations.RegisterWriteStoresArg := by
  intro s reg x hfree hwf
  have hown : reg ∉ ownRowRegisters := by simpa [Instr.wellFormed] using hwf
  have hcommand : reg ≠ 3#6 := fun h => hown (h ▸ by decide)
  refine ⟨_, registerWrite_stores hfree hcommand, ?_⟩
  by_cases hreg : reg = 4#6
  · subst hreg
    exact ⟨rfl, rfl, fun _ => rfl, ((s.withArg_frame x).mono (by simp)).andThen (State.endCycle_frame _ _) (by simp)⟩
  · rw [s.storeRegister_unlisted x hown hreg, if_neg hreg]
    exact ⟨rfl, rfl, fun h => absurd h hreg, (s.endCycle_frame _).mono (by simp)⟩

end Sys2Proof.Machine
end

section
-- One thread at a time: the stack of each thread counts against the memory limit of the check.
set_option Elab.async false
/-! SUPPORT. Proofs/SoftReset.lean: what a reset leaves of the group manager, of the scrubber and of one channel and all four, and SOFT_RESET. -/

namespace Sys2Proof.Machine

/-! ### The group manager (R40) -/

/-- A FILL_PENDING group becomes DISCARD, and every other group stays. -/
theorem State.discardPending_group (s : State) (g : Nat) (h : s.tablesWf) :
    s.discardPending.group g = if (s.group g).state = .fillPending then blankGroup else s.group g := by
  have hread : s.discardPending.group g = if (s.group g).state != .fillPending then s.group g else blankGroup :=
    tableRead_filter (fun e : Nat × Group => e.2.state != .fillPending) g h.2
  rw [hread]
  by_cases hp : (s.group g).state = .fillPending <;> simp [hp]

section
variable {s : State}

/-- The fill unit with nothing queued. -/
def emptiedFill (f : FillUnit) : FillUnit := { f with queue := [], ending := false, segment := 0, restart := false }

theorem State.resetFill_idle (h : s.fillingGroup = none) :
    s.resetFill = { s.withdrawFill.discardPending with fill := emptiedFill s.fill } := by
  cases hq : s.fill.queue <;> simp only [State.resetFill, h, hq] <;> rfl

theorem State.resetFill_filling {g : Nat} (h : s.fillingGroup = some g) (hf : s.fillInFlight = false) :
    s.resetFill = { s.withdrawFill.discardPending.setGroup g blankGroup with fill := emptiedFill s.fill } := by
  simp only [State.resetFill, h, hf]
  rfl

theorem State.resetFill_inFlight {g : Nat} {e : FillEntry} {rest : List FillEntry} (hq : s.fill.queue = e :: rest)
    (h : s.fillingGroup = some g) (hf : s.fillInFlight = true) :
    s.resetFill = { s.withdrawFill.discardPending with
      fill := { s.fill with queue := [{ first := g, count := 1, next := g }], ending := true } } := by
  simp only [State.resetFill, hq, h, hf]
  rfl

/-- A group is being filled for an entry of the queue. -/
theorem State.queue_of_fillingGroup {g : Nat} (h : s.fillingGroup = some g) : ∃ e rest, s.fill.queue = e :: rest := by
  cases hq : s.fill.queue with
  | nil => simp [State.fillingGroup, hq] at h
  | cons e rest => exact ⟨e, rest, rfl⟩

theorem State.resetFill_fill_emptied (hf : s.fillInFlight = false) : s.resetFill.fill = emptiedFill s.fill := by
  cases hg : s.fillingGroup with
  | none => rw [State.resetFill_idle hg]
  | some g => rw [State.resetFill_filling hg hf]

theorem State.resetFill_arb (s : State) (b : BankNo) : s.resetFill.arb b = { s.arb b with fill := none } := by
  have hwithdrawn : s.withdrawFill.discardPending.arb b = { s.arb b with fill := none } := s.withdrawFill_arb b
  unfold State.resetFill
  dsimp only
  split <;> exact hwithdrawn

/-- The groups that wait become DISCARD, and so does the one being filled, unless its segment is in flight. -/
theorem State.resetFill_group (s : State) (g : Nat) (hwf : s.tablesWf) : s.resetFill.group g =
    if (s.group g).state = .fillPending ∨ s.fillInFlight = false ∧ s.fillingGroup = some g then blankGroup else s.group g := by
  have hpending := s.withdrawFill.discardPending_group g hwf
  cases hg : s.fillingGroup with
  | none =>
    rw [State.resetFill_idle hg]
    exact hpending.trans (if_congr (by simp) rfl rfl)
  | some k =>
    cases hf : s.fillInFlight with
    | true =>
      obtain ⟨e, rest, hq⟩ := State.queue_of_fillingGroup hg
      rw [State.resetFill_inFlight hq hg hf]
      exact hpending.trans (if_congr (by simp) rfl rfl)
    | false =>
      rw [State.resetFill_filling hg hf]
      refine (State.setGroup_group _ k g blankGroup (s.withdrawFill.discardPending_wf hwf)).trans ?_
      by_cases hk : g = k
      · simp [hk]
      · exact (if_neg hk).trans (hpending.trans (if_congr (by simp [Ne.symm hk]) rfl rfl))

end

/-! ### The scrubber (R96) -/

/-- An operation in flight when the scrubber is reset: its segment is no longer the scrubber's. -/
def scrubDisowned (o : Op) : Op := if o.kind = .scrubSegment then { o with residual := true } else o

section
variable (s : State) (b : BankNo)

theorem State.resetScrub_bank : s.resetScrub.bank b = { s.bank b with op := (s.bank b).op.map scrubDisowned } :=
  Four.get_map _ _ _

theorem State.resetScrub_arb : s.resetScrub.arb b = { s.arb b with scrub := none } := s.withdrawScrub_arb b

end

/-! ### One channel (R143) -/

/-- Channel `n` as CH_RESET leaves it. -/
def State.chanReset (s : State) (n : ChanNo) : Channel :=
  { state := .idle, pauses := noPauses, stop := .none, fault := .none, aborting := false
    residual := (s.chan n).residual || s.chanOp n (fun _ => true) || s.beatOf n
    desc := (s.chan n).desc, work := none, remaining := 0, ended := none, fifo := [], done := 0#16
    fenceBase := (s.chan n).fenceBase, fenceLimit := (s.chan n).fenceLimit }

/-- A beat that is no longer channel `n`'s (R161). -/
def beatDisowned (n : ChanNo) (x : Beat) : Beat := if x.ch = n then { x with residual := true } else x

section
variable (s : State) (n m : ChanNo) (b : BankNo)

theorem State.resetChan_chan : (s.resetChan n).chan m = if m = n then s.chanReset n else s.chan m := by
  by_cases h : m = n
  · subst h
    simp only [State.resetChan, State.dropWork, State.markResidual, State.setChan_chan, if_true]
    rfl
  · rw [if_neg h]
    exact s.resetChan_frame n (.chan m) (by simp [h, allArbs, allBanks])

theorem State.resetChan_bank : (s.resetChan n).bank b = { s.bank b with op := (s.bank b).op.map (disowned n) } :=
  Four.get_map _ _ _

theorem State.resetChan_arb : (s.resetChan n).arb b = { s.arb b with ch := (s.arb b).ch.set n none } :=
  s.withdrawChan_arb n b

theorem State.resetChan_stream :
    (s.resetChan n).stream = { s.stream with beat := s.stream.beat.map (beatDisowned n) } := rfl

end

/-! ### What makes a channel's work residual -/

section
variable {s t : State} {n : ChanNo}

/-- Which channels have operations in flight is a matter of the operations' kinds. -/
theorem State.chanOp_congr (h : ∀ b, (t.bank b).op.map Op.kind = (s.bank b).op.map Op.kind) :
    t.chanOp n (fun _ => true) = s.chanOp n (fun _ => true) := by
  have hkinds : ∀ u : State, u.chanOp n (fun _ => true) =
      Four.indices.any fun b => ((u.bank b).op.map Op.kind).any fun k => k.channel == some n := fun u => by
    simp [State.chanOp, State.anyOp, Option.any_map]
  rw [hkinds, hkinds]
  simp only [h]

/-- Whose beat is in progress is a matter of the beat's channel. -/
theorem State.beatOf_congr (h : t.stream.beat.map Beat.ch = s.stream.beat.map Beat.ch) : t.beatOf n = s.beatOf n := by
  have hch : ∀ u : State, u.beatOf n = (u.stream.beat.map Beat.ch).any (· == n) := fun u => by
    simp [State.beatOf, Option.any_map]
  rw [hch, hch, h]

theorem State.chanReset_congr (hc : t.chan n = s.chan n) (ho : ∀ b, (t.bank b).op.map Op.kind = (s.bank b).op.map Op.kind)
    (hb : t.stream.beat.map Beat.ch = s.stream.beat.map Beat.ch) : t.chanReset n = s.chanReset n := by
  rw [State.chanReset, State.chanReset, hc, State.chanOp_congr ho, State.beatOf_congr hb]

end

theorem disowned_kind (n : ChanNo) (o : Op) : (disowned n o).kind = o.kind := by
  unfold disowned
  split <;> rfl

theorem scrubDisowned_kind (o : Op) : (scrubDisowned o).kind = o.kind := by
  unfold scrubDisowned
  split <;> rfl

theorem beatDisowned_ch (n : ChanNo) (x : Beat) : (beatDisowned n x).ch = x.ch := by
  unfold beatDisowned
  split <;> rfl

/-- A reset of one channel makes no other channel's work come or go. -/
theorem State.resetChan_chanReset (s : State) {n m : ChanNo} (h : m ≠ n) : (s.resetChan n).chanReset m = s.chanReset m := by
  refine State.chanReset_congr ((s.resetChan_chan n m).trans (if_neg h)) (fun b => ?_) ?_
  · simp [State.resetChan_bank, Function.comp_def, disowned_kind]
  · simp [State.resetChan_stream, Function.comp_def, beatDisowned_ch]

/-! ### All four channels (R150) -/

/-- Every channel has been reset. -/
def State.resetChans (s : State) : State := Four.indices.foldl (fun v n => v.resetChan n) s

theorem State.resetChans_eq (s : State) : s.resetChans = (((s.resetChan 0).resetChan 1).resetChan 2).resetChan 3 := rfl

/-- An operation in flight when every channel is reset. -/
def chansDisowned (o : Op) : Op := if o.kind.channel ≠ none then { o with residual := true } else o

/-- An operation that belongs to a channel belongs to one of the four. -/
theorem disowned_all (o : Op) : disowned 3 (disowned 2 (disowned 1 (disowned 0 o))) = chansDisowned o := by
  cases hk : o.kind.channel with
  | none => simp [disowned, chansDisowned, hk]
  | some n =>
    match n with
    | 0 | 1 | 2 | 3 => simp [disowned, chansDisowned, hk]

theorem beatDisowned_all (x : Beat) :
    beatDisowned 3 (beatDisowned 2 (beatDisowned 1 (beatDisowned 0 x))) = { x with residual := true } := by
  obtain ⟨n, out, residual⟩ := x
  match n with
  | 0 | 1 | 2 | 3 => simp [beatDisowned]

section
variable (s : State) (n : ChanNo) (b : BankNo)

theorem State.resetChans_chan : s.resetChans.chan n = s.chanReset n := by
  match n with
  | 0 | 1 | 2 | 3 => simp [State.resetChans_eq, State.resetChan_chan, State.resetChan_chanReset]

theorem State.resetChans_arb : s.resetChans.arb b = { s.arb b with ch := Four.all none } := by
  simp only [State.resetChans_eq, State.resetChan_arb]
  rfl

theorem State.resetChans_bank : s.resetChans.bank b = { s.bank b with op := (s.bank b).op.map chansDisowned } := by
  simp only [State.resetChans_eq, State.resetChan_bank, Option.map_map, Function.comp_def, disowned_all]

theorem State.resetChans_stream :
    s.resetChans.stream = { s.stream with beat := s.stream.beat.map fun x => { x with residual := true } } := by
  simp only [State.resetChans_eq, State.resetChan_stream, Option.map_map, Function.comp_def, beatDisowned_all]

end

/-! ### The effect of a taken SOFT_RESET (R112) -/

/-- The skipping rule leaves a cursor on a group in need of refresh, and a bank that is not READY (R55). -/
theorem State.applySkips_account_kept (s : State) (b : BankNo)
    (h : s.needsRefresh (s.cursorGroup b) = true ∨ s.isReady b = false) : s.applySkips.account b = s.account b := by
  have hdue : s.skipDue b = false := h.elim (fun hn => s.skipDue_of_needed b (.inr hn)) fun hr => by simp [State.skipDue, hr]
  rw [State.applySkips_account, State.applySkip_of_not_due s b hdue]

/-- The group manager, the scrubber and the override latch have been reset. -/
def State.blocksReset (s : State) : State :=
  { s.resetFill.resetScrub with override := { s.resetFill.resetScrub.override with armed := false } }

theorem State.softResetEffect_eq (s : State) : s.softResetEffect = s.blocksReset.resetChans.clearReports.applySkips := rfl

theorem State.blocksReset_frame (s : State) :
    unchangedBut ([.groups, .fill, .scrub, .override] ++ allArbs ++ allBanks) s s.blocksReset := by
  have h : unchangedBut ([.groups, .fill, .scrub, .override] ++ allArbs ++ allBanks) s s.resetFill.resetScrub :=
    (s.resetFill_frame.mono (by grind)).andThen s.resetFill.resetScrub_frame (by grind)
  intro p hp
  refine Part.same_trans (h p hp) ?_
  cases p with
  | override => simp at hp
  | _ => rfl

theorem State.clearedReports_frame (s : State) :
    unchangedBut ([.stream, .log, .events] ++ allChans ++ allArbs ++ allBanks) s s.resetChans.clearReports :=
  (s.resetChans_frame.mono (by grind)).andThen (State.clearReports_frame s.resetChans) (by simp)

/-- What follows the reset of the channels. -/
theorem State.softResetEffect_afterChannels (s : State) :
    unchangedBut ([.log, .events] ++ allAccounts) s.blocksReset.resetChans s.softResetEffect :=
  ((State.clearReports_frame _).mono (by simp)).andThen (State.applySkips_frame _) (by simp)

/-- What follows the reset of the group manager, the scrubber and the override latch. -/
theorem State.softResetEffect_afterBlocks (s : State) :
    unchangedBut ([.stream, .log, .events] ++ allChans ++ allArbs ++ allBanks ++ allAccounts) s.blocksReset s.softResetEffect :=
  (s.blocksReset.clearedReports_frame.mono (by grind)).andThen (State.applySkips_frame _) (by grind)

theorem State.softResetEffect_frame (s : State) :
    unchangedBut ([.groups, .fill, .scrub, .override, .stream, .log, .events] ++ allChans ++ allArbs ++ allBanks ++ allAccounts)
      s s.softResetEffect :=
  (s.blocksReset_frame.mono fun p => by simp only [List.mem_append, List.mem_cons]; tauto).andThen
    s.softResetEffect_afterBlocks fun p => by simp only [List.mem_append, List.mem_cons]; tauto

section
variable (s : State) (n : ChanNo) (b : BankNo) (g : Nat)

theorem State.softResetEffect_group : s.softResetEffect.group g = s.resetFill.group g :=
  group_of_frame s.softResetEffect_afterBlocks (by simp [allChans, allArbs, allBanks, allAccounts]) g

theorem State.softResetEffect_fill : s.softResetEffect.fill = s.resetFill.fill :=
  s.softResetEffect_afterBlocks .fill (by simp [allChans, allArbs, allBanks, allAccounts])

theorem State.softResetEffect_scrub : s.softResetEffect.scrub =
    { bank := 0, row := 0#11, segment := 0#5, credits := 0, pass := s.scrub.pass, state := .idle } := by
  have hscrub : s.resetFill.scrub = s.scrub := s.resetFill_frame .scrub (by simp [allArbs])
  have hreset : s.blocksReset.scrub =
      { bank := 0, row := 0#11, segment := 0#5, credits := 0, pass := s.resetFill.scrub.pass, state := .idle } := rfl
  rw [← hscrub, ← hreset]
  exact s.softResetEffect_afterBlocks .scrub (by simp [allChans, allArbs, allBanks, allAccounts])

theorem State.blocksReset_arb : s.blocksReset.arb b = { s.arb b with fill := none, scrub := none } := by
  have h : s.blocksReset.arb b = { s.resetFill.arb b with scrub := none } := s.resetFill.resetScrub_arb b
  rw [h, State.resetFill_arb]

theorem State.blocksReset_bank : s.blocksReset.bank b = { s.bank b with op := (s.bank b).op.map scrubDisowned } := by
  have hbank : s.resetFill.bank b = s.bank b := s.resetFill_frame (.bank b) (by simp [allArbs])
  rw [← hbank]
  exact s.resetFill.resetScrub_bank b

theorem State.softResetEffect_chan : s.softResetEffect.chan n = s.chanReset n := by
  have hchans : s.softResetEffect.chan n = s.blocksReset.resetChans.chan n :=
    s.softResetEffect_afterChannels (.chan n) (by simp [allAccounts])
  have hstream : s.blocksReset.stream = s.stream := s.blocksReset_frame .stream (by simp [allArbs, allBanks])
  rw [hchans, State.resetChans_chan]
  refine State.chanReset_congr (s.blocksReset_frame (.chan n) (by simp [allArbs, allBanks])) (fun b => ?_) (by rw [hstream])
  simp [State.blocksReset_bank, Function.comp_def, scrubDisowned_kind]

theorem State.softResetEffect_arb : s.softResetEffect.arb b = { s.arb b with ch := Four.all none, fill := none, scrub := none } := by
  have harbs : s.softResetEffect.arb b = s.blocksReset.resetChans.arb b :=
    s.softResetEffect_afterChannels (.arb b) (by simp [allAccounts])
  rw [harbs, State.resetChans_arb, State.blocksReset_arb]

theorem State.softResetEffect_bank : s.softResetEffect.bank b = { s.bank b with
    op := (s.bank b).op.map fun o =>
      if o.kind.channel ≠ none ∨ o.kind = .scrubSegment then { o with residual := true } else o } := by
  have hbanks : s.softResetEffect.bank b = s.blocksReset.resetChans.bank b :=
    s.softResetEffect_afterChannels (.bank b) (by simp [allAccounts])
  have hop : ∀ o, chansDisowned (scrubDisowned o) =
      if o.kind.channel ≠ none ∨ o.kind = .scrubSegment then { o with residual := true } else o := fun o => by
    by_cases hk : o.kind = .scrubSegment
    · simp [chansDisowned, scrubDisowned, hk, OpKind.channel]
    · simp [chansDisowned, scrubDisowned, hk]
  rw [hbanks, State.resetChans_bank, State.blocksReset_bank]
  simp only [Option.map_map, Function.comp_def, hop]

theorem State.softResetEffect_stream :
    s.softResetEffect.stream = { s.stream with beat := s.stream.beat.map fun x => { x with residual := true } } := by
  have hstream : s.blocksReset.stream = s.stream := s.blocksReset_frame .stream (by simp [allArbs, allBanks])
  rw [← hstream, ← State.resetChans_stream]
  exact s.softResetEffect_afterChannels .stream (by simp [allAccounts])

theorem State.softResetEffect_log : s.softResetEffect.log = { records := [], nextSeq := 0#8, overflow := 0 } :=
  State.applySkips_frame _ .log (by simp [allAccounts])

theorem State.softResetEffect_events : s.softResetEffect.events = { s.events with sticky := 0#17 } := by
  have hevents : s.blocksReset.resetChans.events = s.events :=
    (s.blocksReset.resetChans_frame .events (by simp [allChans, allArbs, allBanks])).trans
      (s.blocksReset_frame .events (by simp [allArbs, allBanks]))
  rw [← hevents]
  exact State.applySkips_frame _ .events (by simp [allAccounts])

/-- A cursor on a group still in need of refresh stays, and so does every account of a bank that is not READY (R55, R61). -/
theorem State.softResetEffect_account
    (h : s.softResetEffect.needsRefresh (s.cursorGroup b) = true ∨ s.isReady b = false) :
    s.softResetEffect.account b = s.account b := by
  have hacc : s.blocksReset.resetChans.clearReports.account b = s.account b :=
    (s.blocksReset.clearedReports_frame (.account b) (by simp [allChans, allArbs, allBanks])).trans
      (s.blocksReset_frame (.account b) (by simp [allArbs, allBanks]))
  have hready : s.softResetEffect.isReady b = s.isReady b := by
    rw [State.isReady, State.softResetEffect_bank, State.isReady]
  rw [← hready] at h
  rw [State.softResetEffect_eq] at h ⊢
  generalize s.blocksReset.resetChans.clearReports = v at h hacc
  rw [← hacc]
  refine v.applySkips_account_kept b (h.imp (fun hn => ?_) fun hr => ?_)
  · rwa [State.cursorGroup, ← hacc, ← State.cursorGroup, State.needsRefresh_congr v.applySkips_groups] at hn
  · rwa [State.isReady, v.applySkips_frame (.bank b) (by simp [allAccounts]), ← State.isReady] at hr

end

/-- A SOFT_RESET in service is taken (R112). -/
theorem State.runCommand_softReset_ok (s : State) (u : BitVec 24) (h : s.inService = true) :
    (s.commanded (commandWord u 0x1F#8)).runCommand = .ok (s.commanded (commandWord u 0x1F#8)).softResetEffect := by
  have hserved : (s.commanded (commandWord u 0x1F#8)).inService = true := h
  rw [State.runCommand_softReset, State.softResetCommand, hserved, if_neg (by simp)]

/-- Settles O57. -/
theorem softResetKeepsTheArray : Obligations.SoftResetKeepsTheArray := by
  intro s u hready hwf hs dropped
  obtain ⟨t, ht, htaken, hlast, hframe⟩ := taken_of_runCommand hready (s.runCommand_softReset_ok u hs)
    (State.softResetEffect_frame _) (by simp [allChans, allArbs, allBanks, allAccounts])
  let v := s.commanded (commandWord u 0x1F#8)
  have hgroup : ∀ g, t.group g =
      if (s.group g).state = .fillPending ∨ s.fillInFlight = false ∧ s.fillingGroup = some g then blankGroup else s.group g :=
    fun g => ((group_of_frame hlast (by simp) g).trans (v.softResetEffect_group g)).trans (v.resetFill_group g hwf)
  have hfill : t.fill = v.resetFill.fill := (hlast .fill (by simp)).trans v.softResetEffect_fill
  refine ⟨t, ht, htaken, fun g hg => (hgroup g).trans (if_pos hg), fun g hg => (hgroup g).trans (if_neg hg),
    fun hf => hfill.trans (State.resetFill_fill_emptied (s := v) hf),
    fun e rest hf hq hg => hfill.trans (by rw [State.resetFill_inFlight (s := v) hq hg hf]; rfl),
    (hlast .scrub (by simp)).trans v.softResetEffect_scrub, (hlast .override (by simp)).trans v.softResetEffect_override,
    fun n => (hlast (.chan n) (by simp)).trans (v.softResetEffect_chan n),
    fun b => (hlast (.arb b) (by simp)).trans (v.softResetEffect_arb b),
    fun b => (hlast (.bank b) (by simp)).trans (v.softResetEffect_bank b),
    (hlast .stream (by simp)).trans v.softResetEffect_stream, fun b h => ?_,
    (hlast .log (by simp)).trans v.softResetEffect_log, (hlast .events (by simp)).trans v.softResetEffect_events,
    hframe.mono (by grind)⟩
  rw [State.needsRefresh_congr (hlast .groups (by simp))] at h
  exact (hlast (.account b) (by simp)).trans (v.softResetEffect_account b h)

end Sys2Proof.Machine
end

section
-- One thread at a time: the stack of each thread counts against the memory limit of the check.
set_option Elab.async false
/-! SUPPORT. Proofs/Descriptors.lean: what a descriptor that passes validation is known to satisfy. -/

namespace Sys2Proof.Machine

section
variable {base limit : WordAddr} {w0 w1 w2 w3 : Word} {op : ChanOp}

/-- What the five steps of R119 have found of a descriptor with operation `op` that passed them. -/
structure Validated (base limit : WordAddr) (w0 w1 w2 : Word) (op : ChanOp) : Prop where
  count : 1 ≤ descCount w0
  src : usesSrc op = true → wordAligned w1 = true ∧ rangeFits w1 (descCount w0) = true
  dst : usesDst op = true → wordAligned w2 = true ∧ rangeFits w2 (descCount w0) = true
  fence : usesDst op = true → insideFence base limit w2 (descCount w0) = true
  apart : op = .copy → rangesMeet w1 w2 (descCount w0) = false

theorem validated_of_validateDescriptor (h : validateDescriptor base limit w0 w1 w2 w3 = .inr op) :
    Validated base limit w0 w1 w2 op := by
  unfold validateDescriptor at h
  split at h
  · cases h
  · dsimp only at h
    split_ifs at h with hfield halign hrange hapart hfence
    cases h
    simp only [Bool.or_eq_true, Bool.and_eq_true, not_or, not_and, Bool.not_eq_true', Bool.not_eq_false] at halign hrange hfence
    obtain ⟨⟨hsrc, hdst⟩, -⟩ := halign
    obtain ⟨⟨hsrc', hdst'⟩, -⟩ := hrange
    exact
      { count := by omega
        src := fun hs => ⟨hsrc hs, hsrc' hs⟩
        dst := fun hd => ⟨hdst hd, hdst' hd⟩
        fence := hfence
        apart := fun hc => by simpa [hc] using hapart }

/-- The range of an aligned byte address that fits the address space begins at a word address (0.4, R119). -/
theorem toNat_of_rangeFits {x : Word} {count : Nat} (ha : wordAligned x = true) (hr : rangeFits x count = true) :
    x.toNat = 4 * (wordAddrOf x).toNat ∧ (wordAddrOf x).toNat + count ≤ 2 ^ 22 := by
  simp only [wordAligned, beq_iff_eq] at ha
  simp only [rangeFits, Bool.and_eq_true, beq_iff_eq, decide_eq_true_eq] at hr
  obtain ⟨hhigh, hfits⟩ := hr
  have hlow : x.toNat % 4 = 0 := by simpa [BitVec.extractLsb'_toNat] using congrArg BitVec.toNat ha
  have htop : x.toNat / 2 ^ 24 % 256 = 0 := by
    simpa [BitVec.extractLsb'_toNat, Nat.shiftRight_eq_div_pow] using congrArg BitVec.toNat hhigh
  have hlt : x.toNat < 2 ^ 32 := x.isLt
  have hword : (wordAddrOf x).toNat = x.toNat / 4 % 2 ^ 22 := by
    simp [wordAddrOf, BitVec.extractLsb'_toNat, Nat.shiftRight_eq_div_pow]
  omega

end

/-- Settles O28: byte addresses of validated ranges are four times their word addresses, and the checks of R119 speak of those. -/
theorem validDescriptorLiesInTheFence : Obligations.ValidDescriptorLiesInTheFence := by
  intro base limit w0 w1 w2 w3 op h
  obtain ⟨hcount, hsrc, hdst, hfence, hapart⟩ := validated_of_validateDescriptor h
  have hreads : usesSrc op = true → w1.toNat = 4 * (wordAddrOf w1).toNat ∧ (wordAddrOf w1).toNat + descCount w0 ≤ 2 ^ 22 :=
    fun hs => toNat_of_rangeFits (hsrc hs).1 (hsrc hs).2
  have hwrites : usesDst op = true → w2.toNat = 4 * (wordAddrOf w2).toNat ∧ (wordAddrOf w2).toNat + descCount w0 ≤ 2 ^ 22 :=
    fun hd => toNat_of_rangeFits (hdst hd).1 (hdst hd).2
  refine ⟨hcount, fun hd k hk => ?_, fun hs k hk => ?_, fun hcopy j hj k hk => ?_⟩
  · obtain ⟨hbyte, -⟩ := hwrites hd
    have hinside := hfence hd
    simp only [insideFence, Bool.and_eq_true, decide_eq_true_eq] at hinside
    omega
  · obtain ⟨-, hend⟩ := hreads hs
    omega
  · obtain ⟨hread, -⟩ := hreads (hcopy ▸ rfl)
    obtain ⟨hwrite, -⟩ := hwrites (hcopy ▸ rfl)
    have hmeet := hapart hcopy
    simp only [rangesMeet, Bool.and_eq_false_iff, decide_eq_false_iff_not] at hmeet
    omega

end Sys2Proof.Machine
end

section
-- One thread at a time: the stack of each thread counts against the memory limit of the check.
set_option Elab.async false
/-! SUPPORT. Proofs/ChannelDelivery.lean: a burst comes back to its channel: what the column operation leaves, the channel's next request or its
halt, and the beat that begins. -/

namespace Sys2Proof.Machine

/-! ### The channel's column operation is over (R12) -/

section
variable {s : State} {b : BankNo} {n : ChanNo} {c : Channel} {w : Work} {q : Request}

/-- The column operation of bank `b` has completed and channel `n` has become `c`, which has asked for nothing yet. -/
def State.delivered (s : State) (b : BankNo) (n : ChanNo) (c : Channel) : State := (s.finishColumn b).setChan n c

theorem State.delivered_chan : (s.delivered b n c).chan n = c := by
  rw [State.delivered, State.setChan_chan, if_pos rfl]

theorem State.delivered_bank : (s.delivered b n c).bank b = afterColumn s.config.hold (s.bank b) := by
  rw [State.delivered, State.setChan_bank, State.finishColumn_bank, if_pos rfl]

theorem State.delivered_arb (a : BankNo) : (s.delivered b n c).arb a = s.columnDone b a := s.finishColumn_arb b a

theorem State.delivered_isReady (a : BankNo) : (s.delivered b n c).isReady a = s.isReady a := s.finishColumn_isReady b a

theorem State.delivered_frame : unchangedBut [.chan n, .bank b, .arb b] s (s.delivered b n c) :=
  ((s.finishColumn_frame b).mono (by simp)).andThen (State.setChan_frame _ n c) (by simp)

/-- The operation that was the channel's only one leaves none in flight. -/
theorem State.finishColumn_chanOp (h : s.soleWork n b) : (s.finishColumn b).chanOp n (fun _ => true) = false := by
  obtain ⟨-, -, hops⟩ := h
  refine List.any_eq_false.2 fun a _ => ?_
  rw [State.finishColumn_bank]
  by_cases ha : a = b
  · simp [ha]
  · simpa [ha] using hops a ha

theorem State.finishColumn_ch_none (h : s.soleWork n b) (a : BankNo) : ((s.finishColumn b).arb a).ch.get n = none := by
  rw [State.finishColumn_arb, State.columnDone_ch]
  exact h.1 a

/-- A channel that runs, its only work just over, places the request it has to make at a READY bank (R121). -/
theorem State.delivered_asks (h : s.soleWork n b) (hw : c.work = some w) (hruns : runs c = true) (hq : requestAtRest n c w = some q)
    (hready : s.isReady (bankOf q.addr) = true) :
    ((s.delivered b n c).consider n).chan n = c ∧
      (∀ a, ((s.delivered b n c).consider n).arb a = withRequest n q a (s.columnDone b a)) ∧
      ((s.delivered b n c).consider n).bank b = afterColumn s.config.hold (s.bank b) ∧
      unchangedBut ([.chan n, .bank b] ++ allArbs) s ((s.delivered b n c).consider n) := by
  have hchan : (s.delivered b n c).chan n = c := State.delivered_chan
  obtain ⟨hframe, harb⟩ := State.consider_atRest (s := s.delivered b n c) (n := n) (w := w) (by rw [hchan, hw]) (by rw [hchan, hruns])
    (State.finishColumn_ch_none h) (State.finishColumn_chanOp h) (by
      rw [hchan, hq]
      exact (State.delivered_isReady _).trans hready)
  rw [hchan, hq] at harb
  refine ⟨(hframe (.chan n) (by simp [allArbs])).trans hchan, fun a => ?_,
    (hframe (.bank b) (by simp [allArbs])).trans State.delivered_bank, (State.delivered_frame.mono (by simp)).andThen hframe (by simp)⟩
  rw [harb, State.delivered_arb]

/-! ### An uncorrectable word, and a fault (R86, R146, R147) -/

/-- A burst with an uncorrectable word delivers no data (R86). -/
theorem State.burstData_none {ws : List WordAddr} {x : WordAddr} (hx : x ∈ ws) (h : classify (s.word x) = .uncorrectable) :
    s.burstData ws = none := by
  rw [State.burstData, State.burstClasses]
  induction ws with
  | nil => cases hx
  | cons v rest ih =>
    rw [List.map_cons, List.mapM_cons]
    rcases List.mem_cons.1 hx with rfl | hrest
    · rw [h]
      rfl
    · rw [ih hrest]
      cases (classify (s.word v)).data <;> rfl

/-- Of a burst whose one word that is not clean is uncorrectable, that word gives the only record. -/
theorem State.checkBurst_recorded {src : Source} {wb : Bool} {ws : List WordAddr} {x : WordAddr} (hx : x ∈ ws) (hnodup : ws.Nodup)
    (hun : classify (s.word x) = .uncorrectable) (hclean : ∀ v ∈ ws, v ≠ x → ∃ d, classify (s.word v) = .clean d)
    (hl : s.log.records.length < 8) :
    s.checkBurst src wb ws = { s with log := logged s.log (wordFinding .uncorrectable src x (syndromeOf (s.word x))) } := by
  have hcheck := State.checkRead_recorded (src := src) (wb := wb) hun hl
  rw [State.checkBurst_lone hx hnodup hclean fun v _ => by rw [hcheck]; rfl, hcheck]

/-- `t` shows the column operation of bank `b` over and channel `n` halted with `code`, its CHANNEL_FAULT record, with the address `x`, after
those of `l` (R12, R146, R147). -/
def haltedAtEnd (s t : State) (b : BankNo) (n : ChanNo) (l : ErrorLog) (code : FaultCode) (x : Option WordAddr) : Prop :=
  t.chan n = haltedChan (s.chan n) code ∧ t.log = logged l (channelFinding n code (s.chan n).desc x) ∧
    t.events = withEvent s.events (.stop n) ∧ t.bank b = afterColumn s.config.hold (s.bank b) ∧ t.arb b = s.columnDone b b ∧
    unchangedBut [.chan n, .log, .events, .bank b, .arb b] s t

/-- A channel whose only work is over halts and leaves nothing behind, the log being `l` by then, with room. -/
theorem State.haltChan_sole (h : s.soleWork n b) (l : ErrorLog) (hl : l.records.length < 8) (code : FaultCode) (x : Option WordAddr) :
    haltedAtEnd s ((State.finishColumn { s with log := l } b).haltChan n code x) b n l code x := by
  let u : State := { s with log := l }
  have hu : u.soleWork n b := h
  obtain ⟨-, hbeat, -⟩ := id hu
  let v : State := u.delivered b n (haltedChan (s.chan n) code)
  have hchan : v.chan n = haltedChan (s.chan n) code := State.delivered_chan
  have hbank : v.bank b = afterColumn s.config.hold (s.bank b) := State.delivered_bank
  have harb : v.arb b = s.columnDone b b := State.delivered_arb b
  have hv : unchangedBut [.chan n, .bank b, .arb b] u v := State.delivered_frame
  have hevents : v.events = s.events := hv .events (by simp)
  have he : (u.finishColumn b).haltChan n code x =
      State.raise { v with log := logged l (channelFinding n code (s.chan n).desc x) } (.stop n) := by
    have hchan : (u.finishColumn b).chan n = s.chan n := u.finishColumn_chan b n
    have hlog : (u.finishColumn b).log = l := u.finishColumn_log b
    rw [State.haltChan_lone _ n code x (State.finishColumn_ch_none hu) (State.finishColumn_chanOp hu)
      (by simpa [State.beatOf] using hbeat), hchan, State.hand_eq_logged _ _ (coalesces_of_kind_ne _ _ (by simp [channelFinding]))
      (by rw [State.setChan_log, hlog]; exact hl), State.setChan_log, hlog]
    rfl
  rw [haltedAtEnd, he]
  exact ⟨hchan, rfl, congrArg (withEvent · (.stop n)) hevents, hbank, harb,
    ((((s.withLog_frame l).mono (by simp)).andThen hv (by simp)).andThen (State.withLog_frame v _) (by simp)).andThen
      (State.raise_frame _ _) (by simp)⟩

section
variable {t : State} {l : ErrorLog} {code : FaultCode} {x : Option WordAddr}

theorem haltedAtEnd.not_eligible (h : haltedAtEnd s t b n l code x) : t.eligible n = false := by
  obtain ⟨hchan, -⟩ := h
  exact t.eligible_of_not_runs n (by rw [hchan]; rfl)

theorem haltedAtEnd.frame (h : haltedAtEnd s t b n l code x) : unchangedBut [.chan n, .log, .events, .bank b, .arb b] s t := by
  obtain ⟨-, -, -, -, -, hframe⟩ := h
  exact hframe

end

/-! ### The beat that begins (R155, R156) -/

theorem State.beginBeat_frame : unchangedBut [.stream] s (s.beginBeat n) := by
  intro p hp
  cases p with
  | stream => simp at hp
  | _ => rfl

/-- At a free port that served nobody, the channel that has become eligible gets its beat (R156). -/
theorem State.decideBeat_begins {t : State} {ps : List Part} (hnone : ∀ m, s.eligible m = false) (hbeat : s.stream.beat = none)
    (hf : unchangedBut (.chan n :: ps) s t) (hs : .stream ∉ ps) (hc : ∀ m, .chan m ∉ ps) (hn : t.eligible n = true) :
    t.decideBeat = t.beginBeat n := by
  have hstream : t.stream = s.stream := hf .stream (by simp [hs])
  have honly : ∀ m, t.eligible m = true → m = n := fun m hm => by
    by_contra hne
    rw [State.eligible_congr (hf (.chan m) (by simp [hne, hc])) hstream, hnone m] at hm
    cases hm
  have hmem : n ∈ t.beatOrder := by
    have : ∀ r m : ChanNo, m ∈ [r + 1, r + 2, r + 3, r] := by decide
    exact this _ n
  obtain ⟨m, hm⟩ := Option.isSome_iff_exists.1 (List.find?_isSome.2 ⟨n, hmem, hn⟩)
  rw [State.decideBeat, hstream, hbeat, if_neg (by simp), hm, honly m (List.find?_some hm)]

/-- A channel with an empty staging FIFO is eligible for a STREAM_IN only (R155). -/
theorem State.eligible_of_empty (hw : (s.chan n).work = some w) (hop : w.op ≠ .streamIn) (hfifo : (s.chan n).fifo = []) :
    s.eligible n = false := by
  unfold State.eligible
  simp only [hw, hfifo]
  cases hwop : w.op with
  | streamIn => exact absurd hwop hop
  | _ => simp

end

end Sys2Proof.Machine
end

section
-- One thread at a time: the stack of each thread counts against the memory limit of the check.
set_option Elab.async false
/-! SUPPORT. Proofs/DescriptorFetch.lean: the completion of a descriptor fetch. -/

namespace Sys2Proof.Machine

/-! ### DESCRIPTOR_FETCH_COMPLETE (R118) -/

/-- At rest, with no beat decision due, the fetch `o` of channel `n`, still the channel's and not of an aborting one, is in flight at bank `b`. -/
structure fetchEnds (s : State) (b : BankNo) (n : ChanNo) (o : Op) : Prop where
  rest : s.atRest
  op : (s.bank b).op = some o
  kind : o.kind = .fetch n
  words : o.words = 4
  residual : o.residual = false
  aborting : (s.chan n).aborting = false
  quiet : s.portQuiet

/-- The four words of the fetch `o` are clean, with the data `w0` to `w3`. -/
def fetched (s : State) (o : Op) (w0 w1 w2 w3 : Word) : Prop :=
  (burstAddrs o.addr 4).map (fun w => classify (s.word w)) = [.clean w0, .clean w1, .clean w2, .clean w3]

/-- A channel in state `st` with the descriptor of the words `w0` to `w3` installed (R120). -/
def installedChan (c : Channel) (st : ChState) (op : ChanOp) (w0 w1 w2 w3 : Word) : Channel :=
  { c with state := st, work := some (installedWork op w0 w1 w2 w3), remaining := descCount w0, ended := none, fifo := [] }

section
variable {s t : State} {b : BankNo} {n : ChanNo} {o : Op} {w0 w1 w2 w3 : Word} {op : ChanOp} {ps : List Part}

theorem fetchEnds.next (h : fetchEnds s b n o) :
    exec (.descriptorFetchComplete b) s = .next (s.completeFetch b n o).decideBeat := by
  refine (next_happen h.rest).trans ?_
  simp only [State.fetchCompletes, h.op, h.kind]

/-- A fetch after which its channel is not eligible makes no beat begin. -/
theorem fetchEnds.next_calm (h : fetchEnds s b n o) (ht : s.completeFetch b n o = t) (hf : unchangedBut (.chan n :: ps) s t)
    (hs : .stream ∉ ps) (hc : ∀ m, .chan m ∉ ps) (hn : t.eligible n = false) :
    exec (.descriptorFetchComplete b) s = .next t := by
  rw [h.next, ht, t.decideBeat_quiet (portQuiet_of_frame h.quiet hf hs hc hn)]

/-- Four clean words are taken as a descriptor (R118). -/
theorem fetchEnds.takes (h : fetchEnds s b n o) (hw : fetched s o w0 w1 w2 w3) :
    s.completeFetch b n o = (s.finishColumn b).takeDescriptor n w0 w1 w2 w3 := by
  have hclasses : (burstAddrs o.addr 4).map (fun w => classify (s.word w)) = [w0, w1, w2, w3].map ReadClass.clean := hw
  simp only [State.completeFetch, h.words, h.residual, h.aborting, Bool.false_eq_true, if_false,
    s.checkBurst_clean _ _ _ (clean_of_map_eq hclasses), s.burstData_clean _ _ hclasses]

/-- An uncorrectable word among clean ones halts the channel (R147). -/
theorem fetchEnds.fails (h : fetchEnds s b n o) {x : WordAddr} (hx : x ∈ burstAddrs o.addr 4)
    (hun : classify (s.word x) = .uncorrectable)
    (hclean : ∀ w ∈ burstAddrs o.addr 4, w ≠ x → ∃ d, classify (s.word w) = .clean d) (hl : s.log.records.length < 8) :
    s.completeFetch b n o = (State.finishColumn { s with
      log := logged s.log (wordFinding .uncorrectable (.ch n) x (syndromeOf (s.word x))) } b).haltChan n .descUncorrectable none := by
  simp only [State.completeFetch, h.words, h.residual, h.aborting, Bool.false_eq_true, if_false,
    State.checkBurst_recorded hx (burstAddrs_nodup _ (by decide)) hun hclean hl, State.burstData_none hx hun]

/-! ### What the channel makes of the four words (R118 to R120) -/

/-- OWN 0 pauses the channel with UNOWNED (R118). -/
theorem State.takeDescriptor_unowned (h : descOwn w0 = false) : s.takeDescriptor n w0 w1 w2 w3 =
    (s.setChan n { s.chan n with state := .paused, pauses := { (s.chan n).pauses with unowned := true } }).raise (.attn n) := by
  simp [State.takeDescriptor, h, Pauses.union]

theorem State.takeDescriptor_faulty {code : FaultCode} (h : descOwn w0 = true)
    (hv : validateDescriptor (s.chan n).fenceBase (s.chan n).fenceLimit w0 w1 w2 w3 = .inl code) :
    s.takeDescriptor n w0 w1 w2 w3 = s.haltChan n code none := by
  simp only [State.takeDescriptor, h, if_true, hv]

theorem State.takeDescriptor_valid (h : descOwn w0 = true)
    (hv : validateDescriptor (s.chan n).fenceBase (s.chan n).fenceLimit w0 w1 w2 w3 = .inr op) :
    s.takeDescriptor n w0 w1 w2 w3 =
      if (s.chan n).pauses.any then s.setChan n (installedChan (s.chan n) .paused op w0 w1 w2 w3)
      else (s.setChan n (installedChan (s.chan n) .active op w0 w1 w2 w3)).consider n := by
  simp only [State.takeDescriptor, h, if_true, hv]
  rfl

/-- The fetch of an owned, valid descriptor installs it, and the channel considers its first request unless it has a pause reason (R120). -/
theorem fetchEnds.installs (h : fetchEnds s b n o) (hw : fetched s o w0 w1 w2 w3) (hown : descOwn w0 = true)
    (hv : validateDescriptor (s.chan n).fenceBase (s.chan n).fenceLimit w0 w1 w2 w3 = .inr op) :
    s.completeFetch b n o =
      if (s.chan n).pauses.any then s.delivered b n (installedChan (s.chan n) .paused op w0 w1 w2 w3)
      else (s.delivered b n (installedChan (s.chan n) .active op w0 w1 w2 w3)).consider n := by
  have hchan : (s.finishColumn b).chan n = s.chan n := s.finishColumn_chan b n
  rw [h.takes hw, State.takeDescriptor_valid hown (by rw [hchan]; exact hv), hchan]
  rfl

/-- A fetched descriptor with OWN 0 pauses its channel and raises CHn_ATTN (R118). -/
theorem fetchEnds.pauses (h : fetchEnds s b n o) (hw : fetched s o w0 w1 w2 w3) (hown : descOwn w0 = false) :
    ∃ t, exec (.descriptorFetchComplete b) s = .next t ∧
      t.chan n = { s.chan n with state := .paused, pauses := { (s.chan n).pauses with unowned := true } } ∧
      t.events = withEvent s.events (.attn n) ∧ t.bank b = afterColumn s.config.hold (s.bank b) ∧
      t.arb b = s.columnDone b b ∧ unchangedBut [.chan n, .events, .bank b, .arb b] s t := by
  let c : Channel := { s.chan n with state := .paused, pauses := { (s.chan n).pauses with unowned := true } }
  let u : State := s.delivered b n c
  have hchan : u.chan n = c := State.delivered_chan
  have hbank : u.bank b = afterColumn s.config.hold (s.bank b) := State.delivered_bank
  have harb : u.arb b = s.columnDone b b := State.delivered_arb b
  have hu : unchangedBut [.chan n, .bank b, .arb b] s u := State.delivered_frame
  have hevents : u.events = s.events := hu .events (by simp)
  have he : s.completeFetch b n o = u.raise (.attn n) := by
    rw [h.takes hw, State.takeDescriptor_unowned hown, s.finishColumn_chan b n]
    rfl
  have hf : unchangedBut [.chan n, .events, .bank b, .arb b] s (u.raise (.attn n)) :=
    (hu.mono (by simp)).andThen (State.raise_frame _ _) (by simp)
  have hidle : (u.raise (.attn n)).eligible n = false :=
    State.eligible_of_not_runs _ n (by rw [State.raise_chan, hchan]; rfl)
  exact ⟨_, h.next_calm he hf (by simp) (by simp) hidle, hchan, congrArg (withEvent · (.attn n)) hevents, hbank, harb, hf⟩

/-- A fetch that comes down to the halt of its channel, which has no other work (R146). -/
theorem fetchEnds.halts (h : fetchEnds s b n o) (hsole : s.soleWork n b) {l : ErrorLog} (hl : l.records.length < 8) {code : FaultCode}
    (he : s.completeFetch b n o = (State.finishColumn { s with log := l } b).haltChan n code none) :
    ∃ t, exec (.descriptorFetchComplete b) s = .next t ∧ haltedAtEnd s t b n l code none := by
  have hhalt := State.haltChan_sole hsole l hl code none
  exact ⟨_, h.next_calm he hhalt.frame (by simp) (by simp) hhalt.not_eligible, hhalt⟩

end

/-- Settles O26: the channel pauses, or its only work is over and it halts. -/
theorem fetchPausesOrHalts : Obligations.FetchPausesOrHalts := by
  intro s b n o hrest ho hk hw hres hab hquiet
  have h : fetchEnds s b n o := ⟨hrest, ho, hk, hw, hres, hab, hquiet⟩
  refine ⟨fun w0 w1 w2 w3 hfetched hown => h.pauses hfetched hown, fun w0 w1 w2 w3 code hfetched hown hv hsole hl => ?_,
    fun x hx hun hclean hsole hl => ?_⟩
  · refine h.halts hsole hl ?_
    rw [h.takes hfetched, State.takeDescriptor_faulty hown (by rw [s.finishColumn_chan b n]; exact hv)]
  · exact h.halts hsole (by simp [logged]; omega) (h.fails hx hun hclean (by omega))

/-! ### The first request of an installed descriptor (R121 to R126) -/

section
variable {s : State} {b : BankNo} {n : ChanNo} {o : Op} {w0 w1 w2 w3 : Word} {op : ChanOp} {c : Channel} {q : Request}

theorem requestAtRest_reads (hop : op = .copy ∨ op = .streamOut) (h1 : 1 ≤ descCount w0) :
    requestAtRest n (installedChan c .active op w0 w1 w2 w3) (installedWork op w0 w1 w2 w3) = some
      { kind := .dataRead n, addr := wordAddrOf w1, words := min 8 (min (descCount w0) (wordsLeftInRow (wordAddrOf w1))) } := by
  rcases hop with rfl | rfl
  · simp [requestAtRest, installedWork, installedChan, usesSrc, h1]
  · have hslots : min 8 (descCount w0) ≤ 16 := by omega
    simp [requestAtRest, installedWork, installedChan, h1, hslots]

theorem requestAtRest_writes (h1 : 1 ≤ descCount w0) :
    requestAtRest n (installedChan c .active .pattern w0 w1 w2 w3) (installedWork .pattern w0 w1 w2 w3) = some
      { kind := .dataWrite n, addr := wordAddrOf w2, words := min 8 (min (descCount w0) (wordsLeftInRow (wordAddrOf w2))) } := by
  simp [requestAtRest, installedWork, installedChan, h1]

theorem requestAtRest_waits :
    requestAtRest n (installedChan c .active .streamIn w0 w1 w2 w3) (installedWork .streamIn w0 w1 w2 w3) = none := by
  simp [requestAtRest, installedWork, installedChan]

/-- With no pause reason and no abort the channel runs. -/
theorem runs_installedChan (hp : c.pauses.any = false) (hab : c.aborting = false) :
    runs (installedChan c .active op w0 w1 w2 w3) = true := by
  simp [runs, installedChan, hp, hab]

/-- An installed descriptor other than a STREAM_IN asks at once for its first request `q`, at a READY bank. -/
theorem fetchEnds.asks (h : fetchEnds s b n o) (hw : fetched s o w0 w1 w2 w3) (hown : descOwn w0 = true)
    (hv : validateDescriptor (s.chan n).fenceBase (s.chan n).fenceLimit w0 w1 w2 w3 = .inr op)
    (hp : (s.chan n).pauses.any = false) (hop : op ≠ .streamIn) (hsole : s.soleWork n b)
    (hq : requestAtRest n (installedChan (s.chan n) .active op w0 w1 w2 w3) (installedWork op w0 w1 w2 w3) = some q)
    (hready : s.isReady (bankOf q.addr) = true) :
    ∃ t, exec (.descriptorFetchComplete b) s = .next t ∧ t.chan n = installedChan (s.chan n) .active op w0 w1 w2 w3 ∧
      (∀ a, t.arb a = withRequest n q a (s.columnDone b a)) ∧ t.bank b = afterColumn s.config.hold (s.bank b) ∧
      unchangedBut ([.chan n, .bank b] ++ allArbs) s t := by
  have he := h.installs hw hown hv
  rw [hp, if_neg (by simp)] at he
  obtain ⟨hchan, harb, hbank, hf⟩ := State.delivered_asks hsole rfl (runs_installedChan hp h.aborting) hq hready
  refine ⟨_, h.next_calm (ps := .bank b :: allArbs) he (hf.mono (by simp)) (by simp [allArbs]) (by simp [allArbs]) ?_,
    hchan, harb, hbank, hf⟩
  exact State.eligible_of_empty (w := installedWork op w0 w1 w2 w3) (by rw [hchan]; rfl) hop (by rw [hchan]; rfl)

/-- A channel with a STREAM_IN just installed has nothing to ask for. -/
theorem State.consider_streamIn (hsole : s.soleWork n b) :
    (s.delivered b n (installedChan c .active .streamIn w0 w1 w2 w3)).consider n =
      s.delivered b n (installedChan c .active .streamIn w0 w1 w2 w3) := by
  let u := s.delivered b n (installedChan c .active .streamIn w0 w1 w2 w3)
  have hop : u.chanOp n (fun _ => true) = false := State.finishColumn_chanOp hsole
  have hchan : u.chan n = installedChan c .active .streamIn w0 w1 w2 w3 := State.delivered_chan
  refine u.consider_of_no_request n (installedWork .streamIn w0 w1 w2 w3) (by rw [hchan]; rfl) ?_
  rw [State.nextRequest_atRest _ (State.chanOp_none hop _) (State.chanOp_none hop _), hchan, requestAtRest_waits]

/-- An empty STREAM_IN is eligible exactly when its SRQ line is high, at a free port (R155). -/
theorem State.eligible_streamIn (hp : c.pauses.any = false) (hab : c.aborting = false) (h1 : 1 ≤ descCount w0)
    (hchan : s.chan n = installedChan c .active .streamIn w0 w1 w2 w3) (hbeat : s.stream.beat = none) :
    s.eligible n = s.stream.srq.get n := by
  have hempty : (s.chan n).fifo = [] := by rw [hchan]; rfl
  have hcount : 0 < (s.chan n).remaining := by rw [hchan]; exact h1
  have hwork : (s.chan n).work = some (installedWork .streamIn w0 w1 w2 w3) := by rw [hchan]; rfl
  have hruns : runs (s.chan n) = true := by rw [hchan, runs_installedChan hp hab]
  simp [State.eligible, State.beatOf, hbeat, hruns, hwork, installedWork, hempty, hcount, Config.fifoDepth]

/-- A STREAM_IN is installed without a request; a high SRQ line and a free port begin its beat (R125, R156). -/
theorem fetchEnds.streamsIn (h : fetchEnds s b n o) (hw : fetched s o w0 w1 w2 w3) (hown : descOwn w0 = true)
    (hv : validateDescriptor (s.chan n).fenceBase (s.chan n).fenceLimit w0 w1 w2 w3 = .inr .streamIn)
    (hp : (s.chan n).pauses.any = false) (hsole : s.soleWork n b) :
    ∃ t, exec (.descriptorFetchComplete b) s = .next t ∧ t.chan n = installedChan (s.chan n) .active .streamIn w0 w1 w2 w3 ∧
      t.stream = (if s.stream.beat = none ∧ s.stream.srq.get n = true then
        { s.stream with beat := some { ch := n, out := none, residual := false }, rot := n, beatCh := n } else s.stream) ∧
      t.bank b = afterColumn s.config.hold (s.bank b) ∧ t.arb b = s.columnDone b b ∧
      unchangedBut [.chan n, .stream, .bank b, .arb b] s t := by
  have he := h.installs hw hown hv
  rw [if_neg (by simp [hp]), State.consider_streamIn hsole] at he
  let u := s.delivered b n (installedChan (s.chan n) .active .streamIn w0 w1 w2 w3)
  have hchan : u.chan n = installedChan (s.chan n) .active .streamIn w0 w1 w2 w3 := State.delivered_chan
  have hbank : u.bank b = afterColumn s.config.hold (s.bank b) := State.delivered_bank
  have harb : u.arb b = s.columnDone b b := State.delivered_arb b
  have hu : unchangedBut [.chan n, .bank b, .arb b] s u := State.delivered_frame
  have hstream : u.stream = s.stream := hu .stream (by simp)
  have heligible : s.stream.beat = none → u.eligible n = s.stream.srq.get n := fun hbeat => by
    rw [State.eligible_streamIn hp h.aborting (validated_of_validateDescriptor hv).count hchan (hstream ▸ hbeat), hstream]
  by_cases hbegins : s.stream.beat = none ∧ s.stream.srq.get n = true
  · obtain ⟨hbeat, hsrq⟩ := hbegins
    have hbegun : u.decideBeat = u.beginBeat n :=
      State.decideBeat_begins (h.quiet.resolve_left (not_not.2 hbeat)) hbeat hu (by simp) (by simp) ((heligible hbeat).trans hsrq)
    have hb : unchangedBut [.stream] u (u.beginBeat n) := State.beginBeat_frame
    refine ⟨u.beginBeat n, by rw [h.next, he, hbegun], (hb (.chan n) (by simp)).trans hchan, ?_,
      (hb (.bank b) (by simp)).trans hbank, (hb (.arb b) (by simp)).trans harb, (hu.mono (by simp)).andThen hb (by simp)⟩
    rw [if_pos ⟨hbeat, hsrq⟩, State.beginBeat, hchan, hstream]
    rfl
  · have hcalm : u.portQuiet := by
      by_cases hbeat : s.stream.beat = none
      · refine portQuiet_of_frame h.quiet hu (by simp) (by simp) ((heligible hbeat).trans ?_)
        exact Bool.eq_false_iff.2 fun hsrq => hbegins ⟨hbeat, hsrq⟩
      · exact .inl (hstream ▸ hbeat)
    refine ⟨u, by rw [h.next, he, u.decideBeat_quiet hcalm], hchan, ?_, hbank, harb, hu.mono (by simp)⟩
    rw [if_neg hbegins, hstream]

/-- With a pause reason the channel is PAUSED on the installed descriptor (R120). -/
theorem fetchEnds.installsPaused (h : fetchEnds s b n o) (hw : fetched s o w0 w1 w2 w3) (hown : descOwn w0 = true)
    (hv : validateDescriptor (s.chan n).fenceBase (s.chan n).fenceLimit w0 w1 w2 w3 = .inr op) (hp : (s.chan n).pauses.any = true) :
    ∃ t, exec (.descriptorFetchComplete b) s = .next t ∧ t.chan n = installedChan (s.chan n) .paused op w0 w1 w2 w3 ∧
      t.bank b = afterColumn s.config.hold (s.bank b) ∧ t.arb b = s.columnDone b b ∧ unchangedBut [.chan n, .bank b, .arb b] s t := by
  have he := h.installs hw hown hv
  rw [if_pos hp] at he
  have hchan := State.delivered_chan (s := s) (b := b) (n := n) (c := installedChan (s.chan n) .paused op w0 w1 w2 w3)
  refine ⟨_, h.next_calm he State.delivered_frame (by simp) (by simp) (State.eligible_of_not_runs _ n ?_), hchan, State.delivered_bank,
    State.delivered_arb b, State.delivered_frame⟩
  rw [hchan]
  rfl

end

/-- Settles O27: the descriptor is installed, and then the first request of each operation. -/
theorem fetchInstallsDescriptor : Obligations.FetchInstallsDescriptor := by
  intro s b n o w0 w1 w2 w3 op hrest ho hk hw hres hab hquiet hfetched hown hv installed
  have h : fetchEnds s b n o := ⟨hrest, ho, hk, hw, hres, hab, hquiet⟩
  have hcount : 1 ≤ descCount w0 := (validated_of_validateDescriptor hv).count
  refine ⟨fun hp => h.installsPaused hfetched hown hv hp, fun hp hop hsole hready => ?_, fun hp hop hsole hready => ?_,
    fun hp hop hsole => ?_⟩
  · exact h.asks hfetched hown hv hp (by rcases hop with rfl | rfl <;> simp) hsole (requestAtRest_reads hop hcount) hready
  · subst hop
    exact h.asks hfetched hown hv hp (by simp) hsole (requestAtRest_writes hcount) hready
  · subst hop
    exact h.streamsIn hfetched hown hv hp hsole

end Sys2Proof.Machine
end

section
-- One thread at a time: the stack of each thread counts against the memory limit of the check.
set_option Elab.async false
/-! SUPPORT. Proofs/ChannelReads.lean: a channel's data reads, from the grant to the words in the staging FIFO. -/

namespace Sys2Proof.Machine

/-! ### The grant of a data read (R121, R122, R123) -/

/-- The channel after the grant of the read `q`: the source cursor is past the burst, whose words are asked for (R121). -/
def readChan (c : Channel) (w : Work) (q : Request) : Channel :=
  { c with work := some { w with src := w.src + BitVec.ofNat 22 q.words, unread := w.unread - q.words } }

/-- The write that a COPY asks for with `k` words in its FIFO (R121, R123). -/
def copyWrite (n : ChanNo) (w : Work) (k : Nat) : Request :=
  { kind := .dataWrite n, addr := w.dst, words := min 8 (min k (wordsLeftInRow w.dst)) }

section
variable {s t : State} {b : BankNo} {n : ChanNo} {q : Request} {w : Work}

/-- A data read has begun at bank `b`, and the channel has moved its cursor on. -/
def State.readBegun (s : State) (b : BankNo) (n : ChanNo) (q : Request) (w : Work) : State :=
  (s.columnBegun b n q).setChan n (readChan (s.chan n) w q)

theorem State.granted_read (hk : q.kind = .dataRead n) (hw : (s.chan n).work = some w) :
    (s.columnBegun b n q).granted (.ch n) q = (s.readBegun b n q w).consider n := by
  have hc : (s.columnBegun b n q).chan n = s.chan n := State.columnBegun_frame (.chan n) (by simp)
  simp only [State.granted, hk, hc, hw]
  rfl

theorem State.readBegun_frame : unchangedBut [.bank b, .arb b, .chan n] s (s.readBegun b n q w) :=
  (State.columnBegun_frame.mono (by simp)).andThen (State.setChan_frame _ n _) (by simp)

theorem State.readBegun_chan : (s.readBegun b n q w).chan n = readChan (s.chan n) w q := by
  rw [State.readBegun, State.setChan_chan, if_pos rfl]

/-- A read stores nothing. -/
theorem State.readBegun_begun (hk : q.kind = .dataRead n) : begun s (s.readBegun b n q w) b q [] := by
  have hnone : s.grantPayload q = [] := by simp only [State.grantPayload, hk]
  rw [← hnone]
  exact begun_of_columnBegun rfl

theorem State.readBegun_reading (hk : q.kind = .dataRead n) : (s.readBegun b n q w).chanReading n = true := by
  obtain ⟨o, hbank, hkind, -⟩ := State.readBegun_begun (s := s) (b := b) (w := w) hk
  exact List.any_eq_true.2 ⟨b, Four.mem_indices b, by simp [hbank, hkind, hk, OpKind.channel]⟩

theorem State.readBegun_writing (hk : q.kind = .dataRead n) (h : s.chanWriting n = false) :
    (s.readBegun b n q w).chanWriting n = false := by
  obtain ⟨o, hbank, hkind, -⟩ := State.readBegun_begun (s := s) (b := b) (w := w) hk
  refine List.any_eq_false.2 fun c hc => ?_
  by_cases hb : c = b
  · simp [hb, hbank, hkind, hk]
  · rw [State.readBegun_frame (.bank c) (by simp [hb])]
    exact List.any_eq_false.1 h c hc

theorem State.readBegun_arb (c : BankNo) : (s.readBegun b n q w).arb c =
    if c = b then s.afterNormal b (.ch n) (positionOf (.ch n)) q else s.arb c := by
  split
  · rename_i hc
    subst hc
    exact State.columnBegun_arb
  · rename_i hc
    exact State.readBegun_frame (.arb c) (by simp [hc])

/-- The channel's request has gone from its arbiter. -/
theorem State.readBegun_none (h : ∀ c, c ≠ b → (s.arb c).ch.get n = none) (c : BankNo) :
    ((s.readBegun b n q w).arb c).ch.get n = none := by
  rw [State.readBegun_arb]
  split
  · simp [State.afterNormal, withoutRequest]
  · rename_i hc
    exact h c hc

theorem State.readBegun_isReady (c : BankNo) : (s.readBegun b n q w).isReady c = s.isReady c := by
  by_cases hc : c = b
  · rw [State.isReady, hc, show (s.readBegun b n q w).bank b = (s.columnBegun b n q).bank b from rfl, State.columnBegun_bank]
    rfl
  · rw [State.isReady, State.readBegun_frame (.bank c) (by simp [hc])]
    rfl

/-- BANK_GRANT of a lone data read, from what the channel considering its next request leaves: arbiters alone, and one request of its own at
most. -/
theorem grant_read (hd : s.decides b) (hlow : (s.account b).balance ≤ 4) (h : s.solePending b (.ch n) q) (hk : q.kind = .dataRead n)
    (hkeep : (s.group (groupOf q.addr)).state = .keep) (hw : (s.chan n).work = some w)
    (ht : (s.readBegun b n q w).consider n = t) (hf : unchangedBut allArbs (s.readBegun b n q w) t)
    (harb : ∀ c, c ≠ b → ∃ r, t.arb c = withRequest n r c (s.arb c) ∨ t.arb c = s.arb c) :
    exec (.bankGrant b) s = .next t ∧ begun s t b q [] ∧ t.chan n = readChan (s.chan n) w q := by
  obtain ⟨hdue, hgrants⟩ := State.grants_lone hd hlow h hkeep
  rw [State.granted_read hk hw, ht] at hgrants
  have hbegun : begun s t b q [] := by
    rw [begun, hf (.bank b) (by simp [allArbs])]
    exact State.readBegun_begun hk
  have hall : unchangedBut ([.bank b, .chan n] ++ allArbs) s t := (State.readBegun_frame.mono (by simp)).andThen hf (by simp)
  have hmeet : s.meet t = t := by
    obtain ⟨o, hbank, -⟩ := id hbegun
    exact State.meet_of_begun (by rw [hbank]; rfl) (fun c hc => hall (.bank c) (by simp [hc, allArbs]))
      (fun c => hall (.account c) (by simp [allArbs])) harb
  refine ⟨?_, hbegun, (hf (.chan n) (by simp [allArbs])).trans State.readBegun_chan⟩
  rw [show exec (.bankGrant b) s = .next (s.ownIfDue (.bankGrant b)) from rfl, next_ownIfDue hdue,
    show s.ownStep (.bankGrant b) = s.meet (s.grants b 16) from rfl, hgrants, hmeet]

/-- While a read of it is in flight, a channel with no words to write asks for nothing (R121). -/
theorem State.nextRequest_reading {v : Work} (hre : s.chanReading n = true)
    (h : v.op = .streamOut ∨ v.op = .copy ∧ (s.chan n).fifo = []) : s.nextRequest n v = none := by
  unfold State.nextRequest
  rcases h with h | ⟨h, hempty⟩ <;> simp [h, hre]
  simp [hempty]

/-- A COPY with words in its FIFO and no write outstanding asks for a write beside its read (R121, R123). -/
theorem State.nextRequest_copyWrite {v : Work} (hwr : s.chanWriting n = false) (hop : v.op = .copy) (hfifo : (s.chan n).fifo ≠ []) :
    s.nextRequest n v = some (copyWrite n v (s.chan n).fifo.length) := by
  have hheld : 1 ≤ (s.chan n).fifo.length := List.length_pos_iff.2 hfifo
  simp only [State.nextRequest, hop, hwr, hheld, and_self, if_true]
  rfl

/-- A granted read after which the channel asks for nothing more. -/
theorem grant_read_alone (hd : s.decides b) (hlow : (s.account b).balance ≤ 4) (h : s.solePending b (.ch n) q)
    (hk : q.kind = .dataRead n) (hkeep : (s.group (groupOf q.addr)).state = .keep) (hw : (s.chan n).work = some w)
    (hop : w.op = .streamOut ∨ w.op = .copy ∧ (s.chan n).fifo = []) :
    ∃ t, exec (.bankGrant b) s = .next t ∧ begun s t b q [] ∧ t.chan n = readChan (s.chan n) w q ∧
      t.arb b = s.afterNormal b (.ch n) (positionOf (.ch n)) q ∧ unchangedBut [.bank b, .arb b, .chan n] s t := by
  have hchan : (s.readBegun b n q w).chan n = readChan (s.chan n) w q := State.readBegun_chan
  have hframe : unchangedBut [.bank b, .arb b, .chan n] s (s.readBegun b n q w) := State.readBegun_frame
  have hconsider : (s.readBegun b n q w).consider n = s.readBegun b n q w :=
    State.consider_of_no_request _ n _ (congrArg Channel.work hchan)
      (State.nextRequest_reading (State.readBegun_reading hk) (by rw [hchan]; exact hop))
  obtain ⟨ht, hbegun, -⟩ := grant_read hd hlow h hk hkeep hw hconsider (.refl _ _) fun c hc =>
    ⟨q, .inr (hframe (.arb c) (by simp [hc]))⟩
  exact ⟨_, ht, hbegun, hchan, State.columnBegun_arb, hframe⟩

/-- A granted read of a COPY that asks for its next write. -/
theorem grant_read_copies (hd : s.decides b) (hlow : (s.account b).balance ≤ 4) (h : s.solePending b (.ch n) q)
    (hother : ∀ c, c ≠ b → (s.arb c).ch.get n = none) (hk : q.kind = .dataRead n)
    (hkeep : (s.group (groupOf q.addr)).state = .keep) (hw : (s.chan n).work = some w) (hop : w.op = .copy)
    (hfifo : (s.chan n).fifo ≠ []) (hruns : runs (s.chan n) = true) (hwriting : s.chanWriting n = false)
    (hready : s.isReady (bankOf w.dst) = true) :
    ∃ t, exec (.bankGrant b) s = .next t ∧ begun s t b q [] ∧ t.chan n = readChan (s.chan n) w q ∧
      (∀ c, t.arb c = withRequest n (copyWrite n w (s.chan n).fifo.length) c
        (if c = b then s.afterNormal b (.ch n) (positionOf (.ch n)) q else s.arb c)) ∧
      unchangedBut ([.bank b, .chan n] ++ allArbs) s t := by
  let u := s.readBegun b n q w
  have hchan : u.chan n = readChan (s.chan n) w q := State.readBegun_chan
  have hnext := State.nextRequest_copyWrite (s := u)
    (v := { w with src := w.src + BitVec.ofNat 22 q.words, unread := w.unread - q.words }) (State.readBegun_writing hk hwriting) hop
    (by rw [hchan]; exact hfifo)
  have hruns' : runs (u.chan n) = true := by
    rw [hchan]
    simpa [runs, readChan, hw] using hruns
  obtain ⟨hplace, harb⟩ := u.consider_places n _ _ (congrArg Channel.work hchan) hruns' (State.readBegun_none hother) hnext
    ((State.readBegun_isReady _).trans hready)
  have harb' : ∀ c, (u.consider n).arb c = withRequest n (copyWrite n w (s.chan n).fifo.length) c
      (if c = b then s.afterNormal b (.ch n) (positionOf (.ch n)) q else s.arb c) := fun c => by
    rw [harb c, State.readBegun_arb, hchan]
    rfl
  obtain ⟨ht, hbegun, hc⟩ := grant_read hd hlow h hk hkeep hw rfl hplace fun c hc => ⟨_, .inl (by rw [harb' c, if_neg hc])⟩
  exact ⟨_, ht, hbegun, hc, harb', (State.readBegun_frame.mono (by simp)).andThen hplace (by simp)⟩

end

/-! ### CHANNEL_READ_COMPLETE (R122, R136, R148) -/

/-- The channel with the words `ds` behind those in its FIFO, unmarked (R122). -/
def filledChan (c : Channel) (ds : List Word) : Channel :=
  { c with fifo := c.fifo ++ ds.map fun d => { data := d, last := false } }

/-- At rest, the data read `o` of channel `n` is in flight at bank `b`. -/
structure readEnds (s : State) (b : BankNo) (n : ChanNo) (o : Op) : Prop where
  rest : s.atRest
  op : (s.bank b).op = some o
  kind : o.kind = .dataRead n

section
variable {s t : State} {b : BankNo} {n : ChanNo} {o : Op} {w : Work} {ds : List Word}

theorem readEnds.next (h : readEnds s b n o) : exec (.channelReadComplete b) s = .next (s.completeRead b n o).decideBeat := by
  refine (next_happen h.rest).trans ?_
  simp only [State.channelReadCompletes, h.op, h.kind]

/-- Clean words join the FIFO, and the channel considers its next request (R121, R122). -/
theorem State.completeRead_fills (hres : o.residual = false) (hab : (s.chan n).aborting = false)
    (hds : (burstAddrs o.addr o.words).map (fun x => classify (s.word x)) = ds.map ReadClass.clean) :
    s.completeRead b n o = (s.delivered b n (filledChan (s.chan n) ds)).consider n := by
  have hchan : (s.finishColumn b).chan n = s.chan n := s.finishColumn_chan b n
  have htakes : (o.residual || (s.chan n).aborting) = false := by simp [hres, hab]
  simp only [State.completeRead, s.checkBurst_clean _ _ _ (clean_of_map_eq hds), htakes, Bool.false_eq_true, if_false,
    s.burstData_clean _ _ hds, hchan]
  rfl

/-- A residual read of clean words leaves the channel alone (R136). -/
theorem State.completeRead_residual (hres : o.residual = true)
    (hclean : ∀ x ∈ burstAddrs o.addr o.words, ∃ d, classify (s.word x) = .clean d) : s.completeRead b n o = s.finishColumn b := by
  simp only [State.completeRead, s.checkBurst_clean _ _ _ hclean, hres, Bool.true_or, if_true]

/-- An uncorrectable word halts the channel, with its address (R148). -/
theorem State.completeRead_fails (hw : o.words = 1) (hres : o.residual = false) (hab : (s.chan n).aborting = false)
    (hun : classify (s.word o.addr) = .uncorrectable) (hl : s.log.records.length < 8) :
    s.completeRead b n o = (State.finishColumn { s with
      log := logged s.log (wordFinding .uncorrectable (.ch n) o.addr (syndromeOf (s.word o.addr))) } b).haltChan n
        .readUncorrectable (some o.addr) := by
  have hmem : o.addr ∈ [o.addr] := List.mem_singleton.2 rfl
  have hfirst : s.firstUncorrectable [o.addr] = some o.addr := by simp [State.firstUncorrectable, hun]
  have hcheck := State.checkBurst_recorded (src := .ch n) (wb := o.writesBack) hmem (List.nodup_singleton _) hun
    (fun v hv hne => absurd (List.mem_singleton.1 hv) hne) hl
  simp only [State.completeRead, hw, burstAddrs_one, hcheck, hres, hab, Bool.or_self, Bool.false_eq_true, if_false,
    State.burstData_none hmem hun, hfirst]

/-- The words of a COPY, whose write is not outstanding, are asked to be written at once (R123). -/
theorem readEnds.copies (h : readEnds s b n o) (hw : (s.chan n).work = some w) (hres : o.residual = false)
    (hab : (s.chan n).aborting = false)
    (hds : (burstAddrs o.addr o.words).map (fun x => classify (s.word x)) = ds.map ReadClass.clean) (hready : s.allReady)
    (hop : w.op = .copy) (hquiet : s.portQuiet) (hruns : runs (s.chan n) = true) (hsole : s.soleWork n b) (hne : ds ≠ []) :
    ∃ t, exec (.channelReadComplete b) s = .next t ∧ t.chan n = filledChan (s.chan n) ds ∧
      (∀ c, t.arb c = withRequest n (copyWrite n w ((s.chan n).fifo.length + ds.length)) c (s.columnDone b c)) ∧
      t.bank b = afterColumn s.config.hold (s.bank b) ∧ unchangedBut ([.chan n, .bank b] ++ allArbs) s t := by
  have hheld : 1 ≤ (s.chan n).fifo.length + ds.length := by
    have := List.length_pos_iff.2 hne
    omega
  have hq : requestAtRest n (filledChan (s.chan n) ds) w = some (copyWrite n w ((s.chan n).fifo.length + ds.length)) := by
    simp [requestAtRest, filledChan, hop, hheld, copyWrite]
  obtain ⟨hchan, harb, hbank, hf⟩ := State.delivered_asks hsole (c := filledChan (s.chan n) ds) hw hruns hq (hready _)
  rw [← State.completeRead_fills (b := b) hres hab hds] at hchan harb hbank hf
  have hcalm : (s.completeRead b n o).portQuiet := portQuiet_of_frame (ps := .bank b :: allArbs) hquiet (hf.mono (by simp))
    (by simp [allArbs]) (by simp [allArbs]) (State.eligible_of_no_stream _ n w (by rw [hchan]; exact hw) (.inl hop))
  exact ⟨_, by rw [h.next, State.decideBeat_quiet _ hcalm], hchan, harb, hbank, hf⟩

/-- A STREAM_OUT with a word in its FIFO and its SRQ line high is eligible at a free port (R155). -/
theorem State.eligible_streamOut {x : FifoWord} {l : List FifoWord} (hw : (s.chan n).work = some w) (hop : w.op = .streamOut)
    (hruns : runs (s.chan n) = true) (hfifo : (s.chan n).fifo = x :: l) (hbeat : s.stream.beat = none)
    (hsrq : s.stream.srq.get n = true) : s.eligible n = true := by
  simp [State.eligible, State.beatOf, hw, hop, hruns, hfifo, hbeat, hsrq]

/-- Its beat latches the first word (R156). -/
theorem State.beginBeat_streamOut {x : FifoWord} {l : List FifoWord} (hw : (s.chan n).work = some w) (hop : w.op = .streamOut)
    (hfifo : (s.chan n).fifo = x :: l) : (s.beginBeat n).stream =
      { s.stream with beat := some { ch := n, out := some x.data, residual := false }, rot := n, beatCh := n } := by
  simp [State.beginBeat, hw, hop, hfifo]

/-- The first word of a STREAM_OUT whose SRQ line waits for it is latched at once. -/
theorem readEnds.streamsOut (h : readEnds s b n o) (hw : (s.chan n).work = some w) (hres : o.residual = false)
    (hab : (s.chan n).aborting = false) {d : Word} {rest : List Word}
    (hds : (burstAddrs o.addr o.words).map (fun x => classify (s.word x)) = (d :: rest).map ReadClass.clean) (hready : s.allReady)
    (hop : w.op = .streamOut) (hruns : runs (s.chan n) = true) (hbeat : s.stream.beat = none) (hsrq : s.stream.srq.get n = true)
    (hfifo : (s.chan n).fifo = []) (hnone : ∀ m, s.eligible m = false) :
    ∃ t, exec (.channelReadComplete b) s = .next t ∧
      t.chan n = { s.chan n with fifo := (d :: rest).map fun x => ({ data := x, last := false } : FifoWord) } ∧
      t.stream = { s.stream with beat := some { ch := n, out := some d, residual := false }, rot := n, beatCh := n } ∧
      t.bank b = afterColumn s.config.hold (s.bank b) ∧ unchangedBut ([.chan n, .bank b, .stream] ++ allArbs) s t := by
  have hfilled : filledChan (s.chan n) (d :: rest) =
      { s.chan n with fifo := (d :: rest).map fun x => ({ data := x, last := false } : FifoWord) } := by
    rw [filledChan, hfifo, List.nil_append]
  obtain ⟨a, ha, -⟩ := (s.delivered b n (filledChan (s.chan n) (d :: rest))).consider_allReady n fun m =>
    (State.delivered_isReady m).trans (hready m)
  let u : State := { s.delivered b n (filledChan (s.chan n) (d :: rest)) with arbs := a }
  have he : s.completeRead b n o = u := (State.completeRead_fills hres hab hds).trans ha
  have hchan : u.chan n = filledChan (s.chan n) (d :: rest) := State.delivered_chan
  have hu : unchangedBut ([.chan n, .bank b] ++ allArbs) s u :=
    (State.delivered_frame.mono (by simp)).andThen (State.withArbs_frame _ a) (by simp)
  have hstream : u.stream = s.stream := hu .stream (by simp [allArbs])
  have hwork : (u.chan n).work = some w := by rw [hchan]; exact hw
  have hhead : (u.chan n).fifo = { data := d, last := false } :: rest.map fun x => { data := x, last := false } := by
    rw [hchan, hfilled, List.map_cons]
  have heligible : u.eligible n = true :=
    State.eligible_streamOut hwork hop (by rw [hchan]; exact hruns) hhead (hstream ▸ hbeat) (hstream ▸ hsrq)
  have hbegun : u.decideBeat = u.beginBeat n :=
    State.decideBeat_begins (ps := .bank b :: allArbs) hnone hbeat (hu.mono (by simp)) (by simp [allArbs]) (by simp [allArbs]) heligible
  have hb : unchangedBut [.stream] u (u.beginBeat n) := State.beginBeat_frame
  refine ⟨u.beginBeat n, by rw [h.next, he, hbegun], ?_, ?_, ?_, (hu.mono (by grind)).andThen hb (by simp)⟩
  · rw [hb (.chan n) (by simp), hchan, hfilled]
  · rw [State.beginBeat_streamOut hwork hop hhead, hstream]
  · exact (hb (.bank b) (by simp)).trans (State.delivered_bank (n := n) (c := filledChan (s.chan n) (d :: rest)))

/-- A residual read delivers nothing (R136). -/
theorem readEnds.residual (h : readEnds s b n o) (hres : o.residual = true) (hquiet : s.portQuiet)
    (hclean : ∀ x ∈ burstAddrs o.addr o.words, ∃ d, classify (s.word x) = .clean d) :
    ∃ t, exec (.channelReadComplete b) s = .next t ∧ t.bank b = afterColumn s.config.hold (s.bank b) ∧
      t.arb b = s.columnDone b b ∧ unchangedBut [.bank b, .arb b] s t := by
  have hf := s.finishColumn_frame b
  refine ⟨s.finishColumn b, ?_, (s.finishColumn_bank b b).trans (if_pos rfl), s.finishColumn_arb b b, hf⟩
  rw [h.next, State.completeRead_residual hres hclean, State.decideBeat_quiet _ (portQuiet_of_unchanged hquiet hf (by simp) (by simp))]

/-- A read of one uncorrectable word halts the channel that has no other work (R148). -/
theorem readEnds.halts (h : readEnds s b n o) (hw : o.words = 1) (hres : o.residual = false) (hab : (s.chan n).aborting = false)
    (hun : classify (s.word o.addr) = .uncorrectable) (hsole : s.soleWork n b) (hquiet : s.portQuiet)
    (hl : s.log.records.length < 7) : ∃ t, exec (.channelReadComplete b) s = .next t ∧ haltedAtEnd s t b n
      (logged s.log (wordFinding .uncorrectable (.ch n) o.addr (syndromeOf (s.word o.addr)))) .readUncorrectable (some o.addr) := by
  have hhalt := State.haltChan_sole hsole (logged s.log (wordFinding .uncorrectable (.ch n) o.addr (syndromeOf (s.word o.addr))))
    (by simp [logged]; omega) .readUncorrectable (some o.addr)
  rw [← State.completeRead_fails hw hres hab hun (by omega)] at hhalt
  have hcalm : (s.completeRead b n o).portQuiet := portQuiet_of_frame hquiet hhalt.frame (by simp) (by simp) hhalt.not_eligible
  exact ⟨_, by rw [h.next, State.decideBeat_quiet _ hcalm], hhalt⟩

end

/-- Settles O29: the grant in its two cases, then the completion in its four. -/
theorem channelReadFillsTheFifo : Obligations.ChannelReadFillsTheFifo := by
  refine ⟨fun s b n q w hd hlow hsole hother hk hkeep hw => ⟨fun hop => ?_, fun hop hfifo hruns hwriting hready => ?_⟩,
    fun s b n o hrest ho hk => ⟨fun w ds hw hres hab hds hready => ⟨fun hop hquiet hruns hsole hne => ?_,
      fun d rest hop hdr hruns hbeat hsrq hfifo hnone => ?_⟩, fun hres hquiet hclean => ?_,
      fun hw hres hab hun hsole hquiet hl => ?_⟩⟩
  · exact grant_read_alone hd hlow hsole hk hkeep hw hop
  · exact grant_read_copies hd hlow hsole hother hk hkeep hw hop hfifo hruns hwriting hready
  · exact readEnds.copies ⟨hrest, ho, hk⟩ hw hres hab hds hready hop hquiet hruns hsole hne
  · subst hdr
    exact readEnds.streamsOut ⟨hrest, ho, hk⟩ hw hres hab hds hready hop hruns hbeat hsrq hfifo hnone
  · exact readEnds.residual ⟨hrest, ho, hk⟩ hres hquiet hclean
  · exact readEnds.halts ⟨hrest, ho, hk⟩ hw hres hab hun hsole hquiet hl

end Sys2Proof.Machine
end

section
-- One thread at a time: the stack of each thread counts against the memory limit of the check.
set_option Elab.async false
/-! SUPPORT. Proofs/ChannelControl.lean: what every step keeps of the channels, a channel's own steps, CH_ABORT and CH_RESET, and the
fences. -/

namespace Sys2Proof.Machine

/-- Settles O6: the law of each channel passes through every step. -/
theorem everyStepKeepsChannels : Obligations.EveryStepKeepsChannels :=
  fun _ _ hc hs n => (keeps_of_step hs).channel n (hc n)

section
variable {s : State} {n : ChanNo} {w : Work}

/-! ### What a channel has outstanding -/

theorem State.chanRequest_none (h : ∀ c, (s.arb c).ch.get n = none) : s.chanRequest n = none :=
  List.findSome?_eq_none_iff.2 fun c _ => h c

/-- No bank has an operation of the channel with property `p` in flight. -/
theorem State.chanOp_of_banks {p : Op → Bool} (h : ∀ b, (s.bank b).op.any (fun o => o.kind.channel == some n && p o) = false) :
    s.chanOp n p = false :=
  List.any_eq_false.2 fun b _ => Bool.eq_false_iff.1 (h b)

/-- A data operation in flight is outstanding (R134). -/
theorem State.dataOutstanding_of_op {b : BankNo} {o : Op} (ho : (s.bank b).op = some o)
    (hk : o.kind = .dataRead n ∨ o.kind = .dataWrite n) : s.dataOutstanding n = true := by
  have hop : s.chanOp n (fun o => o.kind.isData) = true :=
    List.any_eq_true.2 ⟨b, Four.mem_indices b, by rcases hk with hk | hk <;> simp [ho, hk, OpKind.channel, OpKind.isData]⟩
  rw [State.dataOutstanding, hop, Bool.or_true]

/-- A descriptor that has not ended, with nothing outstanding, is settled (R134, R141). -/
theorem State.settledWork_of (hw : (s.chan n).work = some w) (hended : (s.chan n).ended = none)
    (hdata : s.dataOutstanding n = false) (hbeat : s.beatOf n = false) : s.settledWork n = true := by
  simp [State.settledWork, hw, hended, hdata, hbeat]

/-! ### The three own steps, when due -/

theorem State.pause_ownDue (hreset : s.resetAsserted = false) (hset : s.settledWork n = true) (hst : (s.chan n).state = .active)
    (hany : (s.chan n).pauses.any = true) (hab : (s.chan n).aborting = false) :
    s.ownDue (.channelPauseTakesEffect n) = true := by
  simp [State.ownDue, State.pauseDue, hreset, hset, hst, hany, hab]

theorem State.report_ownDue (hreset : s.resetAsserted = false) (hset : s.settledWork n = true)
    (hab : (s.chan n).aborting = true) : s.ownDue (.abortReport n) = true := by
  simp [State.ownDue, State.reportDue, hreset, hset, hab]

/-- The last residual work of the channel is over (R136). -/
theorem State.residual_ownDue (hreset : s.resetAsserted = false) (hres : (s.chan n).residual = true)
    (hop : ∀ b, (s.bank b).op.any (fun o => o.kind.channel == some n && o.residual) = false)
    (hbeat : s.stream.beat.any (fun x => x.ch == n && x.residual) = false) : s.ownDue (.residualClear n) = true := by
  simp [State.ownDue, State.residualDue, State.residualLeft, hreset, hres, State.chanOp_of_banks hop, hbeat]

/-! ### The report of an abort (R141) -/

/-- A stop asks nothing of what it clears (R133). -/
theorem State.setChan_stopChan {c : Channel} {why : StopReason} (h : stoppedChan c why = stoppedChan (s.chan n) why) :
    (s.setChan n c).stopChan n why = s.stopChan n why := by
  have hchan : (s.setChan n c).chan n = c := (s.setChan_chan n n c).trans (if_pos rfl)
  show State.raise ((s.setChan n c).setChan n (stoppedChan ((s.setChan n c).chan n) why)) (.stop n) =
    (s.setChan n (stoppedChan (s.chan n) why)).raise (.stop n)
  rw [hchan, h, State.setChan_setChan]

/-- The channel with its abort reported: the FIFO is empty, and the outcome is ABORTED. -/
def abortReported (c : Channel) : Channel := { c with fifo := [], ended := some .aborted }

theorem State.reportAbort_eq (hw : (s.chan n).work = some w) : s.reportAbort n =
    if w.wb then (s.setChan n (abortReported (s.chan n))).placeChan n (writebackRequest n (s.chan n).desc)
    else (s.setChan n (abortReported (s.chan n))).stopChan n .aborted := by
  unfold State.reportAbort
  split
  · rename_i hnone
    cases hnone.symm.trans hw
  · rename_i v hv
    cases hv.symm.trans hw
    rfl

/-- With WB 0 the channel stops at once. -/
theorem State.reportAbort_stops (hw : (s.chan n).work = some w) (hwb : w.wb = false) :
    s.reportAbort n = s.stopChan n .aborted := by
  rw [State.reportAbort_eq hw, hwb]
  exact State.setChan_stopChan rfl

/-- A request placed at a READY bank for a channel that has changed (R62). -/
theorem State.setChan_placeChan_ready {c : Channel} {q : Request} (hready : s.isReady (bankOf q.addr) = true) :
    ((s.setChan n c).placeChan n q).chan n = c ∧
      (∀ b, ((s.setChan n c).placeChan n q).arb b = withRequest n q b (s.arb b)) ∧
      unchangedBut ([.chan n] ++ allArbs) s ((s.setChan n c).placeChan n q) := by
  have hplace := (s.setChan n c).placeChan_frame n q hready
  refine ⟨?_, (s.setChan n c).placeChan_ready_arb n q hready, ((s.setChan_frame n c).mono (by simp)).andThen hplace (by simp)⟩
  exact (hplace (.chan n) (by simp [allArbs])).trans ((s.setChan_chan n n c).trans (if_pos rfl))

/-- With WB 1 the channel asks for its write-back, at a READY bank (R128). -/
theorem State.reportAbort_writesBack (hw : (s.chan n).work = some w) (hwb : w.wb = true)
    (hready : s.isReady (bankOf (descWord (s.chan n).desc)) = true) :
    (s.reportAbort n).chan n = abortReported (s.chan n) ∧
      (∀ b, (s.reportAbort n).arb b = withRequest n (writebackRequest n (s.chan n).desc) b (s.arb b)) ∧
      unchangedBut ([.chan n] ++ allArbs) s (s.reportAbort n) := by
  rw [State.reportAbort_eq hw, hwb]
  exact State.setChan_placeChan_ready hready

/-! ### RESIDUAL clears (R136) -/

/-- A channel that is not LOADING has no fetch waiting. -/
theorem State.clearResidual_rests (h : (s.chan n).state ≠ .loading) :
    s.clearResidual n = s.setChan n { s.chan n with residual := false } :=
  if_neg fun hc => h hc.1

/-- A LOADING channel with neither request nor fetch places the fetch that waited, at a READY bank (R117). -/
theorem State.clearResidual_fetches (hst : (s.chan n).state = .loading) (hnone : ∀ c, (s.arb c).ch.get n = none)
    (hop : ∀ b, (s.bank b).op.any (fun o => o.kind == .fetch n) = false)
    (hready : s.isReady (bankOf (descWord (s.chan n).desc)) = true) :
    (s.clearResidual n).chan n = { s.chan n with residual := false } ∧
      (∀ c, (s.clearResidual n).arb c = withRequest n (fetchRequest n (s.chan n).desc) c (s.arb c)) ∧
      unchangedBut ([.chan n] ++ allArbs) s (s.clearResidual n) := by
  have hfetch : s.chanOp n (fun o => o.kind == .fetch n) = false := State.chanOp_of_banks fun b => by
    cases ho : (s.bank b).op with
    | none => rfl
    | some o =>
      have hkind := hop b
      rw [ho, Option.any_some] at hkind
      rw [Option.any_some, hkind, Bool.and_false]
  have heq : s.clearResidual n =
      (s.setChan n { s.chan n with residual := false }).placeChan n (fetchRequest n (s.chan n).desc) :=
    if_pos ⟨hst, by rw [State.chanRequest_none hnone, Option.isNone_none], hfetch⟩
  rw [heq]
  exact State.setChan_placeChan_ready hready

end

/-- Settles O32: each own step is due, and then what it does. -/
theorem channelOwnStepsSettle : Obligations.ChannelOwnStepsSettle := by
  refine ⟨fun s n w hreset hw hended hdata hbeat => ?_, fun s n hreset hres hop hbeat => ?_⟩
  · have hset := State.settledWork_of hw hended hdata hbeat
    refine ⟨fun hst hany hab => ?_, fun hab hwb => ?_, fun hab hwb hready => ?_⟩
    · exact ⟨_, next_ownIfDue (State.pause_ownDue hreset hset hst hany hab), (s.pauseChan_chan n n).trans (if_pos rfl),
        s.setChan_frame n _⟩
    · refine ⟨s.stopChan n .aborted, ?_, s.stopChan_chan n _, s.stopChan_events n _, s.stopChan_frame n _⟩
      rw [← State.reportAbort_stops hw hwb]
      exact next_ownIfDue (State.report_ownDue hreset hset hab)
    · exact ⟨_, next_ownIfDue (State.report_ownDue hreset hset hab), State.reportAbort_writesBack hw hwb hready⟩
  · have hdue := State.residual_ownDue hreset hres hop hbeat
    refine ⟨fun hst => ?_, fun hst hnone hfetch hready => ?_⟩
    · refine ⟨s.setChan n { s.chan n with residual := false }, ?_, (s.setChan_chan n n _).trans (if_pos rfl),
        s.setChan_frame n _⟩
      rw [← State.clearResidual_rests hst]
      exact next_ownIfDue hdue
    · exact ⟨_, next_ownIfDue hdue, State.clearResidual_fetches hst hnone hfetch hready⟩

/-! ### CH_ABORT (R140, R141) and CH_RESET (R143) -/

section
variable (s : State) (n : ChanNo) (u : BitVec 22)

theorem State.runCommand_chAbort :
    (s.commanded (channelCommandWord u n 0x13#8)).runCommand =
      (s.commanded (channelCommandWord u n 0x13#8)).chAbortCommand n := by
  have h : commandCode (s.commanded (channelCommandWord u n 0x13#8)).command = 0x13#8 :=
    commandCode_channelCommandWord u n _
  have hn : commandChannel (s.commanded (channelCommandWord u n 0x13#8)).command = n :=
    commandChannel_channelCommandWord u n _
  rw [State.runCommand, h, hn]
  rfl

/-- No state of the channel or of the retention controller refuses CH_RESET. -/
theorem State.runCommand_chReset :
    (s.commanded (channelCommandWord u n 0x14#8)).runCommand =
      .ok ((s.commanded (channelCommandWord u n 0x14#8)).resetChan n) := by
  have h : commandCode (s.commanded (channelCommandWord u n 0x14#8)).command = 0x14#8 :=
    commandCode_channelCommandWord u n _
  have hn : commandChannel (s.commanded (channelCommandWord u n 0x14#8)).command = n :=
    commandChannel_channelCommandWord u n _
  rw [State.runCommand, h, hn]
  rfl

end

section
variable {s : State} {n : ChanNo}

theorem State.chAbort_ok (h : underWay (s.chan n) = true) : s.chAbortCommand n = .ok (s.abortChan n) := by
  simp only [State.chAbortCommand, h, if_true]

/-- The channel with ABORTING set. -/
def State.abortBegun (s : State) (n : ChanNo) : State := s.setChan n { s.chan n with aborting := true }

/-- A PAUSED channel without a descriptor has nothing to wait for: it stops at once. -/
theorem State.abortChan_stops (hst : (s.chan n).state = .paused) (hw : (s.chan n).work = none)
    (hnone : ∀ c, (s.arb c).ch.get n = none) : s.abortChan n = s.stopChan n .aborted := by
  have hstops : s.abortChan n = ((s.abortBegun n).withdrawChan n).stopChan n .aborted := by
    unfold State.abortChan
    dsimp only
    split
    · rename_i hv
      cases hv.symm.trans hw
    · exact if_neg (by simp [hst])
  rw [hstops, (s.abortBegun n).withdrawChan_none n hnone]
  exact State.setChan_stopChan rfl

/-- With no request pending there is none to withdraw. -/
theorem State.withdrawData_none (h : ∀ c, (s.arb c).ch.get n = none) : s.withdrawData n = s :=
  if_neg (by simp [State.chanRequest_none h])

/-- A data operation in flight puts the report off: ABORTING is set, and the operation runs on. -/
theorem State.abortChan_waits (hw : (s.chan n).work ≠ none) (hnone : ∀ c, (s.arb c).ch.get n = none)
    (hdata : s.dataOutstanding n = true) : s.abortChan n = s.abortBegun n := by
  have hwithdraw : (s.abortBegun n).withdrawData n = s.abortBegun n := State.withdrawData_none hnone
  have houtstanding : (s.abortBegun n).dataOutstanding n = true := hdata
  have hdue : ¬ (s.abortBegun n).reportDue n = true := by simp [State.reportDue, State.settledWork, houtstanding]
  unfold State.abortChan
  dsimp only
  split
  · rw [← State.abortBegun, hwithdraw]
    exact if_neg hdue
  · rename_i hv
    exact absurd hv hw

end

/-- Settles O56: CH_ABORT in its two cases, then CH_RESET. -/
theorem channelsAbortAndReset : Obligations.ChannelsAbortAndReset := by
  intro s n u hc
  refine ⟨fun hst hab hw hnone => ?_, fun b o hst hab hw hnone ho hk => ?_, ?_⟩
  · have hrun := (s.runCommand_chAbort n u).trans
      (State.chAbort_ok (s := s.commanded _) ((underWay_iff _).2 ⟨hab, .inr (.inr hst)⟩))
    rw [State.abortChan_stops (s := s.commanded _) hst hw hnone] at hrun
    obtain ⟨t, ht, ⟨hcommand, hstatus, hhost⟩, hlast, hframe⟩ :=
      taken_of_runCommand hc hrun (State.stopChan_frame _ n _) (by simp)
    rw [commandCode_channelCommandWord] at hstatus
    exact ⟨t, ht, hcommand, hstatus, hhost, (hlast (.chan n) (by simp)).trans (State.stopChan_chan _ n _),
      (hlast .events (by simp)).trans (State.stopChan_events _ n _), hframe⟩
  · have hrun := (s.runCommand_chAbort n u).trans
      (State.chAbort_ok (s := s.commanded _) ((underWay_iff _).2 ⟨hab, .inr (.inl hst)⟩))
    rw [State.abortChan_waits (s := s.commanded _) hw hnone (State.dataOutstanding_of_op ho hk)] at hrun
    obtain ⟨t, ht, htaken, hlast, hframe⟩ := taken_of_runCommand hc hrun (State.setChan_frame _ n _) (by simp)
    exact ⟨t, ht, htaken, (hlast (.chan n) (by simp)).trans ((State.setChan_chan _ n n _).trans (if_pos rfl)), hframe⟩
  · obtain ⟨t, ht, htaken, hlast, hframe⟩ :=
      taken_of_runCommand hc (s.runCommand_chReset n u) (State.resetChan_frame _ n) (by simp [allArbs, allBanks])
    exact ⟨t, ht, htaken, (hlast (.chan n) (by simp)).trans ((State.resetChan_chan _ n n).trans (if_pos rfl)),
      fun b => (hlast (.bank b) (by simp)).trans (State.resetChan_bank _ n b),
      fun b => (hlast (.arb b) (by simp)).trans (State.resetChan_arb _ n b),
      (hlast .stream (by simp)).trans (State.resetChan_stream _ n), hframe.mono (by grind)⟩

/-! ### The fences (R144) -/

/-- The channel with `x` written to FENCE_LIMIT when `limit`, else to FENCE_BASE. -/
def fencedChan (c : Channel) (limit : Bool) (x : Word) : Channel :=
  if limit then { c with fenceLimit := wordAddrOf x } else { c with fenceBase := wordAddrOf x }

section
variable {s : State} {n : ChanNo}

theorem State.writeFence_stores (limit : Bool) (x : Word)
    (h : ((s.chan n).state = .idle ∨ (s.chan n).state = .halted) ∧ (s.chan n).residual = false) :
    s.writeFence n limit x = s.setChan n (fencedChan (s.chan n) limit x) :=
  if_pos h

theorem State.writeFence_refuses (limit : Bool) (x : Word)
    (h : ¬(((s.chan n).state = .idle ∨ (s.chan n).state = .halted) ∧ (s.chan n).residual = false)) :
    s.writeFence n limit x = s.raise .refused :=
  if_neg h

end

/-- The bits of a fence register that hold its word address (12.4). -/
theorem fenceMask_getLsbD : ∀ i < 32, (0x00FFFFFC#32).getLsbD i = (decide (2 ≤ i) && decide (i - 2 < 22)) := by decide

/-- A word address, in the place it was taken from (12.4). -/
theorem field_wordAddrOf (x : Word) : field (wordAddrOf x).toNat 2 = x &&& 0x00FFFFFC#32 := by
  refine BitVec.eq_of_getLsbD_eq fun i hi => ?_
  rw [field, BitVec.getLsbD_ofNat, Nat.testBit_mul_two_pow, BitVec.testBit_toNat, wordAddrOf, BitVec.getLsbD_extractLsb',
    BitVec.getLsbD_and, fenceMask_getLsbD i hi]
  by_cases hlow : 2 ≤ i
  · simp [hi, hlow, Bool.and_comm]
  · simp [hlow]

/-- The fence registers of channel `n` are number 4 and 5 of its eight (12.1). -/
theorem State.registerRead_fence (s : State) (n : ChanNo) (limit : Bool) :
    s.registerRead (BitVec.ofNat 6 (32 + 8 * n.val + if limit then 5 else 4)) =
      field (if limit then (s.chan n).fenceLimit else (s.chan n).fenceBase).toNat 2 := by
  cases limit <;> match n with
  | 0 | 1 | 2 | 3 => rfl

/-- The fence written reads as bits 23:2 of the word (12.4). -/
theorem State.registerRead_fenced {s : State} {n : ChanNo} {c : Channel} {limit : Bool} {x : Word}
    (h : s.chan n = fencedChan c limit x) :
    s.registerRead (BitVec.ofNat 6 (32 + 8 * n.val + if limit then 5 else 4)) = x &&& 0x00FFFFFC#32 := by
  rw [State.registerRead_fence, h, ← field_wordAddrOf]
  cases limit <;> rfl

/-- Settles O50: at rest the fence is stored, and otherwise the write is refused. -/
theorem fencesChangeOnlyAtRest : Obligations.FencesChangeOnlyAtRest := by
  refine fun s n limit x hfree => ⟨fun hrest => ?_, fun hbusy => ?_⟩
  · have hchan : ((s.setChan n (fencedChan (s.chan n) limit x)).endCycle (.ready none)).chan n = fencedChan (s.chan n) limit x :=
      (s.setChan_chan n n _).trans (if_pos rfl)
    refine ⟨_, ?_, hchan, State.registerRead_fenced hchan, rfl,
      ((s.setChan_frame n _).mono (by simp)).andThen (State.endCycle_frame _ _) (by simp)⟩
    rw [← State.writeFence_stores limit x hrest]
    exact next_busCycle hfree
  · refine ⟨(s.raise .refused).endCycle (.ready none), ?_, rfl, rfl,
      ((s.raise_frame _).mono (by simp)).andThen (State.endCycle_frame _ _) (by simp)⟩
    rw [← State.writeFence_refuses limit x hbusy]
    exact next_busCycle hfree

end Sys2Proof.Machine
end

section
-- One thread at a time: the stack of each thread counts against the memory limit of the check.
set_option Elab.async false
/-! SUPPORT. Proofs/StreamPort.lean: the SRQ levels, the beat that SRQ_ASSERT begins, and the take of a beat. -/

namespace Sys2Proof.Machine

/-! ### SRQ_ASSERT and SRQ_DEASSERT (R155, R156, R157) -/

section
variable {s t : State} {n m : ChanNo} {w : Work}

theorem State.setSrq_frame (level : Bool) : unchangedBut [.stream] s (s.setSrq n level) := by
  intro p hp
  cases p with
  | stream => simp at hp
  | _ => rfl

/-- Eligibility is a matter of the channel, its own beat and its own SRQ level (R155). -/
theorem State.eligible_of_same (hchan : t.chan m = s.chan m) (hsrq : t.stream.srq.get m = s.stream.srq.get m)
    (hbeat : t.beatOf m = s.beatOf m) : t.eligible m = s.eligible m := by
  simp only [State.eligible, hchan, hsrq, hbeat]

/-- No beat begins without SRQ (R155). -/
theorem State.eligible_of_low (h : s.stream.srq.get n = false) : s.eligible n = false := by
  simp [State.eligible, h]

/-- The level of one line is nothing to another channel. -/
theorem State.setSrq_eligible_ne (level : Bool) (h : m ≠ n) : (s.setSrq n level).eligible m = s.eligible m :=
  State.eligible_of_same rfl (Four.get_set_ne _ _ h) rfl

/-- A running STREAM_IN with room in its FIFO, words still to come and no last mark taken is eligible as its line rises (R155). -/
theorem State.setSrq_eligible (hbeat : s.stream.beat = none) (hruns : runs (s.chan n) = true) (hw : (s.chan n).work = some w)
    (hop : w.op = .streamIn) (hroom : (s.chan n).fifo.length < 16) (hmore : (s.chan n).fifo.length < (s.chan n).remaining)
    (hmark : ∀ x ∈ (s.chan n).fifo, x.last = false) : (s.setSrq n true).eligible n = true := by
  have hnobeat : (s.setSrq n true).beatOf n = false := by
    rw [State.beatOf, show (s.setSrq n true).stream.beat = none from hbeat, Option.any_none]
  have hnomark : (s.chan n).fifo.any (fun x => x.last) = false :=
    List.any_eq_false.2 fun x hx => Bool.eq_false_iff.1 (hmark x hx)
  simp [State.eligible, hnobeat, hruns, hw, hop, hroom, hmore, hnomark, Config.fifoDepth]

/-- The rotation visits every channel (R156). -/
theorem rotation_find (r n : ChanNo) : [r + 1, r + 2, r + 3, r].find? (fun m => decide (m = n)) = some n := by
  revert r n
  decide

/-- At a free port the only eligible channel gets its beat, wherever the rotation stands (R156). -/
theorem State.decideBeat_sole (hbeat : s.stream.beat = none) (hn : s.eligible n = true)
    (hother : ∀ m, m ≠ n → s.eligible m = false) : s.decideBeat = s.beginBeat n := by
  have honly : (fun m => s.eligible m) = fun m => decide (m = n) := by
    funext m
    by_cases hm : m = n
    · simp [hm, hn]
    · simp [hm, hother m hm]
  rw [State.decideBeat, hbeat, if_neg (by simp), honly, State.beatOrder, rotation_find]

/-- The beat of a STREAM_IN latches nothing (R154). -/
theorem State.beginBeat_streamIn (hw : (s.chan n).work = some w) (hop : w.op = .streamIn) : (s.beginBeat n).stream =
    { s.stream with beat := some { ch := n, out := none, residual := false }, rot := n, beatCh := n } := by
  simp [State.beginBeat, hw, hop]

theorem next_srqAssert_reset (h : s.resetAsserted = true) : exec (.srqAssert n) s = .next (s.setSrq n true) :=
  congrArg Host.Outcome.next (if_pos h)

theorem next_srqDeassert_reset (h : s.resetAsserted = true) : exec (.srqDeassert n) s = .next (s.setSrq n false) :=
  congrArg Host.Outcome.next (if_pos h)

/-- At rest a rise is the level and the beat decision. -/
theorem next_srqAssert (h : s.atRest) : exec (.srqAssert n) s = .next (s.setSrq n true).decideBeat := by
  show execSrqAssert n s = _
  simp only [execSrqAssert, h.1, s.settled_of_quiet h.2, Bool.false_eq_true, if_false]

/-- At rest, with no beat of the channel in progress, a fall is the level alone. -/
theorem next_srqDeassert (h : s.atRest) (hbeat : s.beatOf n = false) : exec (.srqDeassert n) s = .next (s.setSrq n false) := by
  show execSrqDeassert n s = _
  simp only [execSrqDeassert, h.1, s.settled_of_quiet h.2, hbeat, Bool.false_eq_true, if_false]

end

/-- Settles O59: the level under RESET, beside a beat, with the beat it begins, and falling. -/
theorem srqLevelsAndBeats : Obligations.SrqLevelsAndBeats := by
  refine fun s n => ⟨fun hreset => ?_, fun hrest hbeat => ?_, fun w hrest hbeat hnone hruns hw hop hroom hmore hmark => ?_,
    fun hrest hbeat => ?_⟩
  · exact ⟨⟨_, next_srqAssert_reset hreset, rfl, State.setSrq_frame true⟩,
      ⟨_, next_srqDeassert_reset hreset, rfl, State.setSrq_frame false⟩⟩
  · refine ⟨s.setSrq n true, ?_, rfl, State.setSrq_frame true⟩
    rw [next_srqAssert hrest, (s.setSrq n true).decideBeat_quiet (.inl hbeat)]
  · have hbegins : (s.setSrq n true).decideBeat = (s.setSrq n true).beginBeat n :=
      State.decideBeat_sole hbeat (State.setSrq_eligible hbeat hruns hw hop hroom hmore hmark) fun m hm =>
        (State.setSrq_eligible_ne true hm).trans (hnone m)
    refine ⟨(s.setSrq n true).beginBeat n, by rw [next_srqAssert hrest, hbegins], ?_,
      (State.setSrq_frame true).trans State.beginBeat_frame⟩
    exact State.beginBeat_streamIn (s := s.setSrq n true) hw hop
  · exact ⟨_, next_srqDeassert hrest hbeat, rfl, State.setSrq_frame false⟩

/-! ### STREAM_TAKE (R153, R158 to R161) -/

/-- The state with the port freed by the take of channel `n`: no beat, and SRQn low (R153). -/
def State.freed (s : State) (n : ChanNo) : State :=
  { s with stream := { s.stream with beat := none, srq := s.stream.srq.set n false } }

/-- What the take of the beat `x` exchanges (R158, R159, R161), the port freed. -/
def State.exchanged (s : State) (x : Beat) (sd : Word) (slast : Bool) : State :=
  if x.residual then s
  else
    match x.out with
    | none => s.endInBeat x.ch sd slast
    | some _ => s.endOutBeat x.ch slast

/-- The channel after an OUT beat: the head word has left and REMAINING has fallen by 1 (R159). -/
def takenChan (c : Channel) : Channel := { c with fifo := c.fifo.drop 1, remaining := c.remaining - 1 }

/-- The channel after an OUT beat with SLAST: its FIFO is emptied besides (R160). -/
def lastTakenChan (c : Channel) : Channel := { takenChan c with fifo := [] }

/-- At rest, the beat `x` of channel `n` is in progress, and no other channel is eligible. -/
structure beatEnds (s : State) (n : ChanNo) (x : Beat) : Prop where
  rest : s.atRest
  beat : s.stream.beat = some x
  ch : x.ch = n
  calm : ∀ m, s.eligible m = false

section
variable {s t : State} {n : ChanNo} {x : Beat} {sd : Word} {slast : Bool} {w : Work}

theorem State.freed_frame : unchangedBut [.stream] s (s.freed n) := by
  intro p hp
  cases p with
  | stream => simp at hp
  | _ => rfl

/-- A take frees the port, exchanges the word and decides the next beat (R153). -/
theorem State.take_eq (s : State) (x : Beat) (sd : Word) (slast : Bool) :
    s.take x sd slast = ((s.freed x.ch).exchanged x sd slast).decideBeat := by
  obtain ⟨ch, out, residual⟩ := x
  cases residual with
  | true => rfl
  | false =>
    cases out with
    | none => rfl
    | some d => rfl

/-- With the port freed nobody is eligible: channel `n` has its line low, and the others stand as they stood (R155). -/
theorem beatEnds.freed_eligible (h : beatEnds s n x) (m : ChanNo) : (s.freed n).eligible m = false := by
  by_cases hm : m = n
  · subst hm
    exact State.eligible_of_low (Four.get_set_self _ _ _)
  · have hothers : s.beatOf m = false := by
      rw [State.beatOf, h.beat, Option.any_some, h.ch]
      exact beq_eq_false_iff_ne.2 (Ne.symm hm)
    rw [State.eligible_of_same (s := s) (t := s.freed n) rfl (Four.get_set_ne _ _ hm) hothers.symm]
    exact h.calm m

/-- STREAM_TAKE, from an exchange that touches the channel and arbiters alone: no beat follows it, since SRQn is low (R156). -/
theorem beatEnds.next (h : beatEnds s n x) (ht : (s.freed n).exchanged x sd slast = t)
    (hf : unchangedBut (.chan n :: allArbs) (s.freed n) t) :
    exec (.streamTake n sd slast) s = .next t ∧ t.stream = (s.freed n).stream ∧
      unchangedBut ([.stream, .chan n] ++ allArbs) s t := by
  have hstream : t.stream = (s.freed n).stream := hf .stream (by simp [allArbs])
  have hlow : t.eligible n = false := State.eligible_of_low (by rw [hstream]; exact Four.get_set_self _ _ _)
  have htake : s.take x sd slast = t := by
    rw [State.take_eq, h.ch, ht]
    exact State.decideBeat_of_chan (.inr h.freed_eligible) hf (.inr hlow)
  refine ⟨?_, hstream, (State.freed_frame.mono (by simp)).andThen hf (by simp)⟩
  refine (next_happen h.rest).trans ?_
  simp only [h.beat, h.ch, if_true, htake]

theorem State.exchanged_residual (hres : x.residual = true) : s.exchanged x sd slast = s := if_pos hres

theorem State.exchanged_in (hres : x.residual = false) (hout : x.out = none) (hch : x.ch = n) :
    s.exchanged x sd slast = s.endInBeat n sd slast := by
  simp only [State.exchanged, hres, hout, hch, Bool.false_eq_true, if_false]

theorem State.exchanged_out {d : Word} (hres : x.residual = false) (hout : x.out = some d) (hch : x.ch = n) :
    s.exchanged x sd slast = s.endOutBeat n slast := by
  simp only [State.exchanged, hres, hout, hch, Bool.false_eq_true, if_false]

/-- A changed channel that considers its next request, every bank READY, changes that request of its own at most (R121). -/
theorem State.setChan_consider (c : Channel) (hready : s.allReady) :
    ((s.setChan n c).consider n).chan n = c ∧
      (∀ b, { ((s.setChan n c).consider n).arb b with ch := (((s.setChan n c).consider n).arb b).ch.set n none } =
        { s.arb b with ch := (s.arb b).ch.set n none }) ∧
      unchangedBut (.chan n :: allArbs) s ((s.setChan n c).consider n) := by
  obtain ⟨a, ha, harb⟩ := (s.setChan n c).consider_allReady n hready
  rw [ha]
  exact ⟨(s.setChan_chan n n c).trans (if_pos rfl), harb,
    ((s.setChan_frame n c).mono (by simp)).andThen (State.withArbs_frame _ a) (by simp)⟩

/-- An OUT beat of a channel that is not aborting: SLAST or the last word ends the descriptor, else it goes on (R159, R160). -/
theorem State.endOutBeat_eq (hw : (s.chan n).work = some w) (hab : (s.chan n).aborting = false) : s.endOutBeat n slast =
    if slast then (((s.setChan n (lastTakenChan (s.chan n))).withdrawData n).markResidual n).endDescriptor n w
      (endOutcome (takenChan (s.chan n)))
    else if (takenChan (s.chan n)).remaining = 0 then (s.setChan n (takenChan (s.chan n))).endDescriptor n w .complete
    else (s.setChan n (takenChan (s.chan n))).consider n := by
  rw [← s.setChan_setChan n (takenChan (s.chan n)) (lastTakenChan (s.chan n))]
  unfold State.endOutBeat
  dsimp only
  split
  · rename_i hnone
    cases hnone.symm.trans hw
  · rename_i v hv
    cases hv.symm.trans hw
    rw [if_neg (by simp [hab])]
    rfl

/-- An OUT beat without SLAST and not of the last word: the descriptor goes on (R159). -/
theorem State.endOutBeat_goesOn (hw : (s.chan n).work = some w) (hab : (s.chan n).aborting = false)
    (hmore : 2 ≤ (s.chan n).remaining) : s.endOutBeat n false = (s.setChan n (takenChan (s.chan n))).consider n := by
  have hleft : (takenChan (s.chan n)).remaining ≠ 0 := by
    simp only [takenChan]
    omega
  rw [State.endOutBeat_eq hw hab, if_neg (by simp), if_neg hleft]

/-- An OUT beat with SLAST, nothing of the channel outstanding: the FIFO is emptied and the descriptor ends (R127, R160). -/
theorem State.endOutBeat_last (hw : (s.chan n).work = some w) (hab : (s.chan n).aborting = false)
    (hnone : ∀ c, (s.arb c).ch.get n = none) (hop : s.chanOp n (fun _ => true) = false) (hbeat : s.beatOf n = false) :
    s.endOutBeat n true =
      (s.setChan n (lastTakenChan (s.chan n))).endDescriptor n w (endOutcome (takenChan (s.chan n))) := by
  let u := s.setChan n (lastTakenChan (s.chan n))
  have hrequest : u.withdrawData n = u := State.withdrawData_none hnone
  have hresidual : u.markResidual n = u := u.markResidual_none n hop hbeat
  rw [State.endOutBeat_eq hw hab, if_pos rfl, hrequest, hresidual]

theorem endOutcome_takenChan (c : Channel) : endOutcome (takenChan c) = if c.remaining ≤ 1 then .complete else .short := by
  simp only [endOutcome, takenChan, Nat.sub_eq_zero_iff_le]

/-- The descriptor that SLAST ends asks for its write-back at a READY bank (R128). -/
theorem State.endOutBeat_reports (hw : (s.chan n).work = some w) (hab : (s.chan n).aborting = false) (hwb : w.wb = true)
    (hnone : ∀ c, (s.arb c).ch.get n = none) (hop : s.chanOp n (fun _ => true) = false) (hbeat : s.beatOf n = false)
    (hready : s.isReady (bankOf (descWord (s.chan n).desc)) = true) :
    (s.endOutBeat n true).chan n = { lastTakenChan (s.chan n) with ended := some (endOutcome (takenChan (s.chan n))) } ∧
      (∀ c, (s.endOutBeat n true).arb c = withRequest n (writebackRequest n (s.chan n).desc) c (s.arb c)) ∧
      unchangedBut (.chan n :: allArbs) s (s.endOutBeat n true) := by
  let u := s.setChan n (lastTakenChan (s.chan n))
  have hchan : u.chan n = lastTakenChan (s.chan n) := (s.setChan_chan n n _).trans (if_pos rfl)
  obtain ⟨hend, harb, hf⟩ := u.endDescriptor_reports n w (endOutcome (takenChan (s.chan n))) hwb (by rw [hchan]; exact hready)
  rw [hchan] at hend harb
  rw [State.endOutBeat_last hw hab hnone hop hbeat]
  exact ⟨hend, harb, ((s.setChan_frame n _).mono (by simp)).andThen hf (by simp)⟩

end

/-- Settles O60: a residual beat, an IN beat, an OUT beat after which the descriptor goes on, and one with SLAST. -/
theorem streamTakeMovesOneWord : Obligations.StreamTakeMovesOneWord := by
  intro s n sd slast x hrest hbeat hch hcalm
  have h : beatEnds s n x := ⟨hrest, hbeat, hch, hcalm⟩
  refine ⟨fun hres => ?_, fun hres hout hready => ?_, fun w d hres hout hslast hw hab hmore hready => ?_,
    fun w d hres hout hslast hw hab hwb hnone hop hready => ?_⟩
  · obtain ⟨ht, hstream, -⟩ := h.next (sd := sd) (slast := slast) (State.exchanged_residual hres) (.refl _ _)
    exact ⟨_, ht, hstream, State.freed_frame⟩
  · obtain ⟨hchan, harb, hf⟩ := State.setChan_consider (s := s.freed n) (n := n)
      { s.chan n with fifo := (s.chan n).fifo ++ [{ data := sd, last := slast }] } hready
    obtain ⟨ht, hstream, hframe⟩ := h.next (State.exchanged_in hres hout hch) hf
    exact ⟨_, ht, hstream, hchan, harb, hframe⟩
  · subst hslast
    obtain ⟨hchan, harb, hf⟩ := State.setChan_consider (s := s.freed n) (n := n) (takenChan (s.chan n)) hready
    obtain ⟨ht, hstream, hframe⟩ := h.next (sd := sd)
      ((State.exchanged_out hres hout hch).trans (State.endOutBeat_goesOn (s := s.freed n) hw hab hmore)) hf
    exact ⟨_, ht, hstream, hchan, harb, hframe⟩
  · subst hslast
    have hflight : s.chanOp n (fun _ => true) = false := State.chanOp_of_banks (by simpa using hop)
    obtain ⟨hchan, harb, hf⟩ := State.endOutBeat_reports (s := s.freed n) hw hab hwb hnone hflight rfl hready
    obtain ⟨ht, hstream, hframe⟩ := h.next (sd := sd) (State.exchanged_out hres hout hch) hf
    refine ⟨_, ht, hstream, ?_, harb, hframe⟩
    rw [← endOutcome_takenChan]
    exact hchan

end Sys2Proof.Machine
end

section
-- One thread at a time: the stack of each thread counts against the memory limit of the check.
set_option Elab.async false
/-! SUPPORT. Proofs/BanksWake.lean: the banks are woken, and the end of ENTERING. -/

namespace Sys2Proof.Machine

/-! ### One bank is woken (R20, R172) -/

/-- What a waking has to do with at bank `b`. -/
def State.bankSide (s : State) (b : BankNo) : Bank × Arbiter × RefreshAccount := (s.bank b, s.arb b, s.account b)

/-- Those parts once the bank is woken: EXIT begins at a RETAINED bank, a DORMANT one restarts, any other stays. -/
def State.wokenSide (s : State) (b : BankNo) : Bank × Arbiter × RefreshAccount :=
  match (s.bank b).state with
  | .retained =>
    ({ s.bank b with
        state := .exiting, openRow := none, holdTimer := none, op := some (s.newOp b .selfRefreshExit 0#22 0 []) },
      afterClose (s.bank b) (s.arb b), s.account b)
  | .dormant => ({ s.bank b with state := .init, settle := 0, op := none }, s.arb b, { balance := 0, cursor := 0#8 })
  | .off | .init | .ready | .entering | .exiting => s.bankSide b

theorem State.wakeBank_frame (s : State) (b : BankNo) : unchangedBut [.bank b, .arb b, .account b] s (s.wakeBank b) := by
  unfold State.wakeBank
  split
  · exact ((s.startClosed_frame b _ _).mono (by simp)).andThen (State.setBank_frame _ b _) (by simp)
  · exact ((s.setBank_frame b _).mono (by simp)).andThen (State.setAccount_frame _ b _) (by simp)
  all_goals exact .refl _ s

theorem State.wakeBank_side (s : State) (b : BankNo) : (s.wakeBank b).bankSide b = s.wokenSide b := by
  cases h : (s.bank b).state with
  | retained =>
    have hacc : (s.startClosed b .selfRefreshExit 0#22).account b = s.account b := s.startClosed_frame b _ _ (.account b) (by simp)
    simp [State.wakeBank, State.wokenSide, h, State.bankSide, State.setBank_bank, State.startClosed_bank, State.startClosed_arb, hacc]
  | dormant => simp [State.wakeBank, State.wokenSide, h, State.bankSide, State.setBank_bank, State.setBalance_account]
  | off | init | ready | entering | exiting => simp only [State.wakeBank, State.wokenSide, h]

theorem bankSide_of_frame {s t : State} {ps : List Part} {b : BankNo} (h : unchangedBut ps s t)
    (hb : ∀ p ∈ [Part.bank b, .arb b, .account b], p ∉ ps) : t.bankSide b = s.bankSide b := by
  have hbank : t.bank b = s.bank b := h _ (hb (.bank b) (by simp))
  have harb : t.arb b = s.arb b := h _ (hb (.arb b) (by simp))
  have hacc : t.account b = s.account b := h _ (hb (.account b) (by simp))
  rw [State.bankSide, hbank, harb, hacc, State.bankSide]

/-- What becomes of a bank depends on its own parts, the timing record and CONFIG. -/
theorem State.wokenSide_congr {s t : State} {b : BankNo} (hside : t.bankSide b = s.bankSide b) (htiming : t.timing = s.timing)
    (hconfig : t.config = s.config) : t.wokenSide b = s.wokenSide b := by
  simp only [State.bankSide, Prod.mk.injEq] at hside
  obtain ⟨hbank, harb, hacc⟩ := hside
  simp only [State.wokenSide, State.bankSide, State.newOp, hbank, harb, hacc, htiming, hconfig]

/-! ### The banks are woken one after the other -/

/-- The parts of all four banks. -/
def allSides : List Part := allBanks ++ allArbs ++ allAccounts

theorem State.wakeBanks_rule (l : List BankNo) (hl : l.Nodup) (s : State) :
    (∀ b, (l.foldl (fun t b => t.wakeBank b) s).bankSide b = if b ∈ l then s.wokenSide b else s.bankSide b) ∧
      unchangedBut allSides s (l.foldl (fun t b => t.wakeBank b) s) := by
  induction l generalizing s with
  | nil => exact ⟨fun b => by simp, .refl _ s⟩
  | cons x rest ih =>
    obtain ⟨hx, hrest⟩ := List.nodup_cons.1 hl
    have hwake := s.wakeBank_frame x
    obtain ⟨hside, hframe⟩ := ih hrest (s.wakeBank x)
    refine ⟨fun b => ?_, (hwake.mono (by simp [allSides])).trans hframe⟩
    rw [List.foldl_cons, hside]
    by_cases hb : b = x
    · rw [hb, if_neg hx, if_pos (by simp), State.wakeBank_side]
    · have hstays : (s.wakeBank x).bankSide b = s.bankSide b := bankSide_of_frame hwake (by simp [hb])
      rw [hstays, State.wokenSide_congr hstays (hwake .timing (by simp)) (hwake .config (by simp))]
      simp [hb]

/-- The controller goes to WAKING with RET_REQ low; `r` is the record it wakes from. -/
theorem State.enterWaking_wakes (s : State) (r : Retention) (hreq : r.req = false) :
    banksWoken s ({ s with retention := r } : State).enterWaking := by
  let u : State := { s with retention :=
    { r with state := .waking, unsettled := Four.indices.countP fun b => (s.bank b).state == .retained } }
  obtain ⟨hside, hframe⟩ := State.wakeBanks_rule Four.indices (by decide) u
  have hside : ∀ b, ({ s with retention := r } : State).enterWaking.bankSide b = s.wokenSide b := fun b =>
    (hside b).trans (if_pos (Four.mem_indices b))
  have hret : ({ s with retention := r } : State).enterWaking.retention = u.retention :=
    hframe .retention (by simp [allSides, allBanks, allArbs, allAccounts])
  refine ⟨congrArg Retention.state hret, (congrArg Retention.req hret).trans hreq,
    (congrArg Retention.unsettled hret).trans List.countP_eq_length_filter, fun b hb => ?_, fun b hb => ?_, fun b hr hd => ?_, ?_⟩
  · have h := hside b
    simp only [State.bankSide, State.wokenSide, hb, Prod.mk.injEq] at h
    exact ⟨s.newOp b .selfRefreshExit 0#22 0 [], rfl, rfl, rfl, h⟩
  · have h := hside b
    simpa only [State.bankSide, State.wokenSide, hb, Prod.mk.injEq] using h
  · have hstays : s.wokenSide b = s.bankSide b := by
      cases h : (s.bank b).state with
      | retained => exact absurd h hr
      | dormant => exact absurd h hd
      | off | init | ready | entering | exiting => simp only [State.wokenSide, h]
    simpa only [hstays, State.bankSide, Prod.mk.injEq] using hside b
  · exact ((s.withRetention_frame _).mono (by simp)).andThen hframe (by simp +contextual [allSides, List.subset_def])

/-! ### ENTERING is over (R170, R171) -/

/-- Settles O40. -/
theorem settledBanksSleepOrWake : Obligations.SettledBanksSleepOrWake := by
  intro s hreset hst huns
  have hdue : s.ownDue .retentionSettled = true := by simp [State.ownDue, hreset, State.settledDue, hst, huns]
  refine ⟨fun hreq => ?_, fun hreq => ?_⟩
  · refine (next_ownIfDue hdue).trans ?_
    rw [show s.ownStep .retentionSettled = s.settle from rfl, State.settle, if_pos hreq]
    rfl
  · have hsettle : s.settle = (s.setRetention .retained).enterWaking := if_neg (by simp [hreq])
    exact ⟨_, (next_ownIfDue hdue).trans (congrArg Host.Outcome.next hsettle), s.enterWaking_wakes _ hreq⟩

end Sys2Proof.Machine
end

section
-- One thread at a time: the stack of each thread counts against the memory limit of the check.
set_option Elab.async false
/-! SUPPORT. Proofs/Quiesce.lean: what retention held is let go, whatever state the controller goes to, the commitment with one READY bank,
and the end of QUIESCING. -/

namespace Sys2Proof.Machine

/-! ### What retention held is let go (R166, R35, R95) -/

/-- The fill engine, with an empty queue, and the scrubber, without a credit, only lose their holds. -/
def State.unitsReleased (v : State) : State := { v.fillFreed with scrub := scrubReleased v.scrub }

theorem State.unitsReleased_frame (v : State) : unchangedBut [.fill, .scrub] v v.unitsReleased :=
  ((v.withFill_frame (released v.fill)).mono (by simp)).andThen (State.withScrub_frame v.fillFreed _) (by simp)

/-- Fill engine and scrubber have nothing to ask for when they are released. -/
abbrev State.unitsIdle (s : State) : Prop := s.fill.queue = [] ∧ s.scrub.credits = 0 ∧ s.scrubInFlight = false

section
variable {s u t : State} {n : ChanNo}

theorem State.releaseAll_of_chans (hf : unchangedBut (allChans ++ allArbs) u u.chansReleased) (hq : u.chansReleased.portQuiet)
    (hidle : u.unitsIdle) : u.releaseAll = u.chansReleased.unitsReleased := by
  obtain ⟨hqueue, hcred, hflight⟩ := hidle
  have hfill : u.chansReleased.fill = u.fill := hf .fill (by simp [allChans, allArbs])
  have hscrub : u.chansReleased.scrub = u.scrub := hf .scrub (by simp [allChans, allArbs])
  have hbank : ∀ b, u.chansReleased.bank b = u.bank b := fun b => hf (.bank b) (by simp [allChans, allArbs])
  have hflight' : u.chansReleased.fillFreed.scrubInFlight = false := by
    rw [← hflight]
    simp only [State.scrubInFlight, State.anyOp]
    exact congrArg _ (funext fun b => congrArg _ (congrArg Bank.op (hbank b)))
  rw [State.releaseAll_eq, State.releaseFill_empty (by rw [hfill, hqueue]),
    State.releaseScrub_of_no_credit (s := u.chansReleased.fillFreed) ((congrArg Scrubber.credits hscrub).trans hcred) hflight']
  exact State.decideBeat_quiet _ (portQuiet_of_chans hq rfl fun _ => .inl rfl)

theorem State.releaseAll_of_none (h : u.noneRetained) (hidle : u.unitsIdle) (hq : u.portQuiet) :
    u.releaseAll = u.unitsReleased := by
  have hc := State.chansReleased_of_none h
  rw [State.releaseAll_of_chans (by rw [hc]; exact .refl _ u) (by rw [hc]; exact hq) hidle, hc]

theorem State.releaseAll_lifted (h : u.mayBeLifted n) (hidle : u.unitsIdle) :
    ∃ v, u.releaseAll = v.unitsReleased ∧ chansLifted u v n := by
  have hlift := State.chansReleased_lifted h
  obtain ⟨-, hq, -, hf⟩ := id hlift
  exact ⟨_, State.releaseAll_of_chans hf hq hidle, hlift⟩

/-- What the release leaves of the fill unit and the scrubber, the controller being in `r`. -/
def unitsFree (s t : State) (r : Retention) : Prop :=
  t.retention = r ∧ t.fill = { s.fill with held := false } ∧
    t.scrub = { s.scrub with state := if s.scrub.state = .held then .idle else s.scrub.state }

theorem unitsFree_of_frame {s v : State} {r : Retention} (h : unchangedBut (allChans ++ allArbs) { s with retention := r } v) :
    unitsFree s v.unitsReleased r := by
  have hfill : v.fill = s.fill := h .fill (by simp [allChans, allArbs])
  have hscrub : v.scrub = s.scrub := h .scrub (by simp [allChans, allArbs])
  refine ⟨h .retention (by simp [allChans, allArbs]), ?_, ?_⟩
  · rw [← hfill]
    rfl
  · rw [← hscrub]
    rfl

/-- The release brings one channel's request at most to a bank: nothing meets there (R65). -/
theorem State.meet_of_lifted (h : ∀ b, t.arb b = s.arb b ∨ ∃ q, t.arb b = withRequest n q b (s.arb b))
    (hbank : ∀ b, t.bank b = s.bank b) (hacc : ∀ b, t.account b = s.account b) : s.meet t = t :=
  s.meet_of_none t fun b => State.meetsAt_of_lone (.ch n)
    (fun x hx => by rw [pendingAt_of_request (h b) hx]; exact id) (hbank b) (hacc b)

end

/-! ### The commitment with one READY bank (R169) -/

/-- Where the updates for all numbers but one do nothing, the updates for a list amount to that one's. -/
theorem foldl_of_idle {f : State → BankNo → State} {b : BankNo} (hf : ∀ c u, c ≠ b → f u c = u) (l : List BankNo) (hl : l.Nodup)
    (u : State) : l.foldl f u = if b ∈ l then f u b else u := by
  induction l generalizing u with
  | nil => rfl
  | cons x rest ih =>
    obtain ⟨hx, hrest⟩ := List.nodup_cons.1 hl
    rw [List.foldl_cons, ih hrest]
    by_cases hb : x = b
    · subst hb
      rw [if_neg hx, if_pos (by simp)]
    · have hmem : b ∈ x :: rest ↔ b ∈ rest := by simp [Ne.symm hb]
      simp only [hf x u hb, hmem]

/-- The order a READY bank is given: SELF-REFRESH ENTRY where a group holds data, POWER-DOWN where none does. -/
def State.sleepOrder (s : State) (b : BankNo) : RetentionOrder := if s.holdsData b then .selfRefreshEntry else .powerDown

/-- The controller in ENTERING with one bank to wait for. -/
def State.committed (s : State) : State := { s with retention := { s.retention with state := .entering, unsettled := 1 } }

theorem State.committed_frame (s : State) : unchangedBut [.retention] s s.committed := s.withRetention_frame _

theorem State.orderFor_unready {s : State} {c : BankNo} (h : s.isReady c = false) : s.orderFor c = none :=
  if_neg (by simp [h])

theorem State.orderFor_ready {s : State} {b : BankNo} (hr : s.isReady b = true) (hoff : (s.bank b).offWaiting = false) :
    s.orderFor b = some (s.sleepOrder b) :=
  if_pos ⟨hr, hoff⟩

theorem State.answeredAt_none {s : State} {c : BankNo} (h : s.noRequests c) : s.answeredAt c = [] := by
  obtain ⟨hhost, hch, -, -⟩ := h
  simp [State.answeredAt, hhost, hch]

theorem State.isFree_iff (s : State) (b : BankNo) : s.isFree b = true ↔ s.isReady b = true ∧ (s.bank b).op = none := by
  simp [State.isFree]

theorem filter_indices_eq (b : BankNo) : Four.indices.filter (fun c => decide (c = b)) = [b] := by
  revert b
  decide

/-- The orders of the four banks, decided before any is given. -/
def State.orders (s : State) : Four (Option RetentionOrder) := ⟨s.orderFor 0, s.orderFor 1, s.orderFor 2, s.orderFor 3⟩

theorem State.orders_get (s : State) (c : BankNo) : s.orders.get c = s.orderFor c := by
  fin_cases c <;> rfl

section
variable {s : State} {b : BankNo}

theorem State.readyCount_lone (hready : s.isReady b = true) (hothers : ∀ c, c ≠ b → s.isReady c = false) :
    Four.indices.countP (fun c => s.isReady c) = 1 := by
  have hone : (fun c => s.isReady c) = fun c => decide (c = b) := funext fun c => by
    by_cases hc : c = b
    · simp [hc, hready]
    · simp [hc, hothers c hc]
  rw [hone, List.countP_eq_length_filter, filter_indices_eq, List.length_singleton]

/-- No bank but `b` has requests to answer with a record. -/
theorem State.noisyBanks_lone (hquiet : ∀ c, c ≠ b → s.noRequests c) :
    Four.indices.filter (fun c => !(s.answeredAt c).isEmpty) = if (s.answeredAt b).isEmpty then [] else [b] := by
  have hnone : ∀ c, c ≠ b → (s.answeredAt c).isEmpty = true := fun c hc => by
    rw [State.answeredAt_none (hquiet c hc), List.isEmpty_nil]
  have hall : ∀ c, (!(s.answeredAt c).isEmpty) = (decide (c = b) && !(s.answeredAt b).isEmpty) := fun c => by
    by_cases hc : c = b
    · simp [hc]
    · simp [hc, hnone c hc]
  rw [funext hall]
  split
  · rename_i hb
    simp [hb]
  · rename_i hb
    simpa [hb] using filter_indices_eq b

/-- The one READY bank begins its order; whether a request waits there decides only when it does. -/
theorem State.commit_lone (hquiet : ∀ c, c ≠ b → s.noRequests c) (hfree : s.isFree b = true)
    (hoff : (s.bank b).offWaiting = false) (hothers : ∀ c, c ≠ b → s.isReady c = false) :
    s.commit = s.committed.beginOrder b (s.sleepOrder b) := by
  obtain ⟨hready, hop⟩ := (s.isFree_iff b).1 hfree
  have hidle : ∀ c (u : State), c ≠ b → u.giveOrder c (s.orders.get c) = u := fun c u hc => by
    rw [s.orders_get, State.orderFor_unready (hothers c hc), State.giveOrder]
  have hbegins : s.committed.giveOrder b (s.orders.get b) = s.committed.beginOrder b (s.sleepOrder b) := by
    rw [s.orders_get, State.orderFor_ready hready hoff]
    exact if_pos (Option.isNone_iff_eq_none.2 hop)
  have hcommit : s.commit = (((Four.indices.filter fun c => (s.answeredAt c).isEmpty).foldl
      (fun u c => u.giveOrder c (s.orders.get c)) s.committed).forTogether
        (Four.indices.filter fun c => !(s.answeredAt c).isEmpty) fun c u => u.giveOrder c (s.orders.get c)) := by
    rw [State.commit, State.readyCount_lone hready hothers]
    rfl
  rw [hcommit, State.noisyBanks_lone hquiet, foldl_of_idle hidle _ (List.Nodup.filter _ (by decide))]
  by_cases hb : (s.answeredAt b).isEmpty = true
  · rw [if_pos hb, State.forTogether_nil, if_pos (by simpa using hb), hbegins]
  · rw [if_neg hb, State.forTogether_single, if_neg (by simpa using hb), hbegins]

end

/-- The one READY bank goes to sleep. -/
def goesToSleep (s t : State) (b : BankNo) : Prop :=
  t.retention = { s.retention with state := .entering, unsettled := 1 } ∧
    ∃ o, o.kind = (if s.holdsData b = true then OpKind.selfRefreshEntry else OpKind.powerDown) ∧
      t.bank b = { s.bank b with state := .entering, openRow := none, holdTimer := none, op := some o, order := none }

section
variable {s t : State} {b : BankNo}

theorem orderKind_sleepOrder (s : State) (b : BankNo) :
    orderKind (s.sleepOrder b) = if s.holdsData b = true then OpKind.selfRefreshEntry else OpKind.powerDown := by
  unfold State.sleepOrder
  split <;> rfl

/-- The bank that begins its order, before the requests pending there are answered. -/
def State.asleep (s : State) (b : BankNo) : State := s.committed.entered b (s.sleepOrder b)

theorem State.asleep_frame (s : State) (b : BankNo) : unchangedBut [.bank b, .arb b] s.committed (s.asleep b) :=
  s.committed.entered_frame b _

theorem State.asleep_bank (s : State) (b : BankNo) : (s.asleep b).bank b = { s.bank b with
    state := .entering, openRow := none, holdTimer := none,
    op := some (s.committed.newOp b (orderKind (s.sleepOrder b)) 0#22 0 []), order := none } :=
  s.committed.entered_bank b _

theorem goesToSleep_of_answered (hret : t.retention = (s.asleep b).retention) (hbank : t.bank b = (s.asleep b).bank b) :
    goesToSleep s t b :=
  ⟨hret.trans (s.asleep_frame b .retention (by simp)), _, orderKind_sleepOrder s b, hbank.trans (s.asleep_bank b)⟩

/-- With no request pending there the bank and the controller alone change. -/
theorem State.asleep_alone (h : s.noRequests b) : (s.asleep b).answerPending b = s.asleep b :=
  State.answerPending_none _ b (noRequests_of_afterClose (s.committed.entered_arb b _) h)

/-- The one request pending there is answered NOT_READY (R74, R75). -/
theorem State.asleep_turnsAway {r : Requester} {q : Request} (hs : s.solePending b r q) (hm : s.mayBeTurnedAway b r q) :
    goesToSleep s ((s.asleep b).answerPending b) b ∧
      ((s.asleep b).answerPending b).arb b = afterClose (s.bank b) (withoutRequest r (s.arb b)) ∧
      turnedAway s ((s.asleep b).answerPending b) r q .bankState [.retention, .bank b, .arb b] := by
  have hbank := s.asleep_bank b
  have hown : (s.asleep b |>.bank b).op.all (fun o => o.kind.channel == none) = true := by
    rw [hbank]
    cases h : s.sleepOrder b <;> simp [State.newOp, orderKind, OpKind.channel]
  obtain ⟨harb, hturn, hkeep⟩ := State.answerPending_after (s := s.committed) (by simp [State.isReady, hbank]) hs hm
    (s.asleep_frame b) (by simp) (by simp) (s.committed.entered_arb b _) hown
  refine ⟨goesToSleep_of_answered (hkeep .retention (by simp [allChans])) (hkeep (.bank b) (by simp [allChans])), harb, ?_⟩
  exact turnedAway_within hturn (s.committed_frame.mono (by simp)) (.refl _ _) (by simp) (by simp)

end

/-! ### QUIESCING is over (R165, R168) -/

/-- Neither a read in READ_DRAIN nor a held write is in progress on the bus. -/
abbrev State.busSettled (s : State) : Prop := s.host.cycle = .idle ∨ s.host.cycle = .barrier ∨ ∃ w, s.host.cycle = .readArray w

section
variable {s : State}

/-- While the bus is to go on the quiesce is not complete (R102, R114). -/
theorem State.quiesceDue_of_waiting (hq : s.host.queue = [])
    (h : ∃ w, s.host.cycle = .readDrain w ∨ ∃ lanes data, s.host.cycle = .writeHeld w lanes data) : s.quiesceDue = false := by
  obtain ⟨w, hc | ⟨lanes, data, hc⟩⟩ := h
  · have hdue : s.drainEndDue = true := by simp [State.drainEndDue, hc, hq]
    simp [State.quiesceDue, hdue]
  · have hdue : s.heldWriteDue = true := by simp [State.heldWriteDue, hc, hq, Config.hostQueueDepth]
    simp [State.quiesceDue, hdue]

theorem State.quiesceDue_of_settled (hst : s.retention.state = .quiescing)
    (hch : ∀ n, (s.chan n).state ≠ .loading ∧ (s.chan n).state ≠ .active) (hfill : s.fillInFlight = false)
    (hq : s.host.queue = []) (hinit : ∀ b, (s.bank b).state ≠ .init) (h : s.busSettled) : s.quiesceDue = true := by
  have hwait : s.waitCh = false := by simp [State.waitCh, hch]
  have hbanks : s.waitInit = false := by simp [State.waitInit, hinit]
  have hbus : s.drainEndDue = false ∧ s.heldWriteDue = false := by
    rcases h with hc | hc | ⟨w, hc⟩ <;> simp [State.drainEndDue, State.heldWriteDue, hc]
  simp [State.quiesceDue, hst, hwait, State.waitFill, hfill, State.waitQueue, hq, hbanks, hbus]

/-- The part denied retention, once channels, fill engine and scrubber are released as in `v`. -/
def State.denied (v : State) : State := v.unitsReleased.raise .retDenied

theorem State.denied_frame (v : State) : unchangedBut [.fill, .scrub, .events] v v.denied :=
  (v.unitsReleased_frame.mono (by simp)).andThen (State.raise_frame _ _) (by simp)

end

/-- With INT asserted the quiesce ends in a denial: beside one channel's request nothing has come to a bank. -/
theorem State.completeQuiesce_denied {s v : State} {n : ChanNo} (hint : s.int = true)
    (hrel : (s.setRetention .denied).releaseAll = v.unitsReleased) (hf : unchangedBut (allChans ++ allArbs) (s.setRetention .denied) v)
    (harb : ∀ b, v.arb b = s.arb b ∨ ∃ q, v.arb b = withRequest n q b (s.arb b)) : s.completeQuiesce = v.denied := by
  have hmeet : s.meet v.denied = v.denied := State.meet_of_lifted harb
    (fun b => hf (.bank b) (by simp [allChans, allArbs])) fun b => hf (.account b) (by simp [allChans, allArbs])
  rw [State.completeQuiesce, if_pos hint, hrel]
  exact hmeet

/-- Settles O39. -/
theorem quiesceEndsInDeniedOrEntering : Obligations.QuiesceEndsInDeniedOrEntering := by
  intro s hreset hst hch hfill hq hinit
  refine ⟨fun hwaits => ?_, fun hbus => ?_⟩
  · have hdue : s.ownDue .quiesceComplete = false := by simp [State.ownDue, State.quiesceDue_of_waiting hq hwaits]
    exact congrArg Host.Outcome.next (if_neg (by simp [hdue]))
  · have hdue : s.ownDue .quiesceComplete = true := by
      simp [State.ownDue, hreset, State.quiesceDue_of_settled hst hch hfill hq hinit hbus]
    have hnext : exec .quiesceComplete s = .next s.completeQuiesce := next_ownIfDue hdue
    refine ⟨fun hint hnone hfq hcred hflight hport => ?_, fun n hint hlift hfq hcred hflight => ?_,
      fun b hint hquiet hfree hoff hothers => ?_⟩
    · have hrel := State.releaseAll_of_none (u := s.setRetention .denied) hnone ⟨hfq, hcred, hflight⟩ hport
      have hdone := State.completeQuiesce_denied (n := 0) hint hrel (.refl _ _) fun _ => .inl rfl
      obtain ⟨hret, hunit, hscrub⟩ := unitsFree_of_frame (s := s) (v := s.setRetention .denied) (.refl _ _)
      exact ⟨_, hnext.trans (congrArg _ hdone), hret, hunit, hscrub, rfl,
        ((s.withRetention_frame _).mono (by simp)).andThen (State.denied_frame _) (by simp)⟩
    · obtain ⟨v, hrel, ⟨hlifted, -, harb, hf⟩⟩ := State.releaseAll_lifted (u := s.setRetention .denied) hlift ⟨hfq, hcred, hflight⟩
      have hdone := State.completeQuiesce_denied hint hrel hf harb
      have hevents : v.events = s.events := hf .events (by simp [allChans, allArbs])
      obtain ⟨hret, hunit, hscrub⟩ := unitsFree_of_frame hf
      exact ⟨_, hnext.trans (congrArg _ hdone), hret, hunit, hscrub, congrArg (withEvent · .retDenied) hevents, hlifted,
        (((s.withRetention_frame _).mono (by simp)).andThen hf (by simp +contextual [List.subset_def])).andThen
          (State.denied_frame _) (by simp)⟩
    · have hdone : s.completeQuiesce = (s.asleep b).answerPending b := by
        rw [State.completeQuiesce, if_neg (by simp [hint]), State.commit_lone hquiet hfree hoff hothers]
        rfl
      refine ⟨fun hn => ?_, fun r q hs hm => ?_⟩
      · rw [State.asleep_alone hn] at hdone
        exact ⟨_, hnext.trans (congrArg _ hdone), goesToSleep_of_answered rfl rfl, s.committed.entered_arb b _,
          (s.committed_frame.mono (by simp)).andThen (s.asleep_frame b) (by simp)⟩
      · exact ⟨_, hnext.trans (congrArg _ hdone), State.asleep_turnsAway hs hm⟩

end Sys2Proof.Machine
end

section
-- One thread at a time: the stack of each thread counts against the memory limit of the check.
set_option Elab.async false
/-! SUPPORT. Proofs/RetReq.lean: RETENTION joins the pause-reason sets, and the changes of the RET_REQ line. -/

namespace Sys2Proof.Machine

/-! ### Any reason joins a pause-reason set (R134)

What ChannelCommands.lean says of HOST alone holds of every set of reasons. -/

/-- The channel with the reasons `p`, PAUSED where a first reason takes effect at once. -/
def State.chanGiven (s : State) (n : ChanNo) (p : Pauses) : Channel :=
  { s.chan n with state := if s.pausesAtOnce n then .paused else (s.chan n).state, pauses := (s.chan n).pauses.union p }

theorem Pauses.any_eq_false_iff (p : Pauses) : p.any = false ↔ p = noPauses := by
  obtain ⟨host, retention, unowned⟩ := p
  simp [Pauses.any, noPauses, and_assoc]

theorem Pauses.union_any {p q : Pauses} (h : q.any = true) : (p.union q).any = true := by
  simp only [Pauses.any, Pauses.union, Bool.or_eq_true] at h ⊢
  grind

section
variable {s : State} {n : ChanNo} {p : Pauses}

theorem State.requestLeft_set (h : ¬ s.takesFirstReason n) (b : BankNo) :
    { s.arb b with ch := (s.arb b).ch.set n (s.requestLeft n b) } = s.arb b := by
  rw [State.requestLeft, if_neg h, Four.set_get]

/-- The channel with the reasons `p`, its data request withdrawn, as the first reason finds it. -/
def State.withdrawing (s : State) (n : ChanNo) (p : Pauses) : State :=
  (s.setChan n { s.chan n with pauses := (s.chan n).pauses.union p }).withdrawData n

theorem State.withdrawing_chan : (s.withdrawing n p).chan n = { s.chan n with pauses := (s.chan n).pauses.union p } :=
  (State.withdrawData_frame (.chan n) (by simp [allArbs])).trans ((s.setChan_chan n n _).trans (if_pos rfl))

theorem State.withdrawing_frame : unchangedBut (.chan n :: allArbs) s (s.withdrawing n p) :=
  ((s.setChan_frame n _).mono (by simp)).andThen State.withdrawData_frame (by simp)

theorem State.withdrawing_due_iff (hp : p.any = true) (h : s.takesFirstReason n) :
    (s.withdrawing n p).pauseDue n = true ↔ s.pausesAtOnce n := by
  obtain ⟨hst, -, hab⟩ := id h
  have hrequest : ((s.withdrawing n p).chanRequest n).any (fun r => r.kind.isData) = false := State.withdrawData_chanRequest
  have hbank : ∀ b, (s.withdrawing n p).bank b = s.bank b := fun b => State.withdrawing_frame (.bank b) (by simp [allArbs])
  have hstream : (s.withdrawing n p).stream = s.stream := State.withdrawing_frame .stream (by simp [allArbs])
  have hop : (s.withdrawing n p).chanOp n (fun o => o.kind.isData) = s.chanOp n (fun o => o.kind.isData) := by
    simp only [State.chanOp, State.anyOp, hbank]
  have hbeat : (s.withdrawing n p).beatOf n = s.beatOf n := by rw [State.beatOf, hstream, State.beatOf]
  simp [State.pauseDue, State.settledWork, State.dataOutstanding, State.withdrawing_chan, hrequest, hop, hbeat, hst, hab,
    Pauses.union_any hp, State.pausesAtOnce, h, Option.isSome_iff_ne_none, and_assoc]

/-- What a reason leaves of the channel and of its request, first reason or not. -/
theorem State.addPause_rule (hp : p.any = true) (hone : (s.chan n).state = .active → s.oneRequest n) :
    (s.addPause n p).chan n = s.chanGiven n p ∧
      (∀ b, (s.addPause n p).arb b = { s.arb b with ch := (s.arb b).ch.set n (s.requestLeft n b) }) ∧
      unchangedBut (.chan n :: allArbs) s (s.addPause n p) := by
  by_cases h : s.takesFirstReason n
  · obtain ⟨hst, hnone, hab⟩ := id h
    have hadd : s.addPause n p =
        if (s.withdrawing n p).pauseDue n then (s.withdrawing n p).pauseChan n else s.withdrawing n p :=
      if_pos ⟨(Pauses.any_eq_false_iff _).2 hnone, hst, hab⟩
    have harb : ∀ b, (s.withdrawing n p).arb b = { s.arb b with ch := (s.arb b).ch.set n (s.requestLeft n b) } := fun b => by
      rw [State.requestLeft, if_pos h]
      exact State.withdrawData_arb (s := s.setChan n _) (hone hst) b
    rw [hadd, State.chanGiven]
    by_cases hnow : s.pausesAtOnce n
    · rw [if_pos ((State.withdrawing_due_iff hp h).2 hnow), if_pos hnow]
      refine ⟨?_, harb, State.withdrawing_frame.andThen (State.setChan_frame _ n _) (by simp)⟩
      rw [State.pauseChan_chan, if_pos rfl, State.withdrawing_chan]
    · rw [if_neg fun hdue => hnow ((State.withdrawing_due_iff hp h).1 hdue), if_neg hnow]
      exact ⟨State.withdrawing_chan, harb, State.withdrawing_frame⟩
  · have hadd : s.addPause n p = s.setChan n { s.chan n with pauses := (s.chan n).pauses.union p } :=
      if_neg fun ⟨hany, hst, hab⟩ => h ⟨hst, (Pauses.any_eq_false_iff _).1 hany, hab⟩
    rw [hadd, State.chanGiven, if_neg fun hnow => h hnow.1]
    exact ⟨(s.setChan_chan n n _).trans (if_pos rfl), fun b => (State.requestLeft_set h b).symm,
      (s.setChan_frame n _).mono (by simp)⟩

end

/-! ### RETENTION joins the set of every channel under way (R166) -/

/-- Channel `n` once QUIESCING has given its orders: an IDLE or HALTED channel stays. -/
def State.chanHeld (s : State) (n : ChanNo) : Channel :=
  if (s.chan n).state = .idle ∨ (s.chan n).state = .halted then s.chan n else s.chanGiven n retentionPause

/-- `t` is `s` after the channels of `l` have been held. -/
structure chansHeld (l : List ChanNo) (s t : State) : Prop where
  chan : ∀ m, t.chan m = if m ∈ l then s.chanHeld m else s.chan m
  request : ∀ b m, (t.arb b).ch.get m = if m ∈ l then s.requestLeft m b else (s.arb b).ch.get m
  arb : ∀ b, t.arb b = { s.arb b with ch := (t.arb b).ch }
  frame : unchangedBut (allChans ++ allArbs) s t

theorem chansHeld.refl (s : State) : chansHeld [] s s :=
  ⟨fun m => by simp, fun b m => by simp, fun b => rfl, .refl _ s⟩

section
variable {s t u : State} {n : ChanNo}

theorem State.requestLeft_of_resting (h : (s.chan n).state = .idle ∨ (s.chan n).state = .halted) (b : BankNo) :
    s.requestLeft n b = (s.arb b).ch.get n := by
  refine if_neg fun ⟨hst, _⟩ => ?_
  rcases h with h | h <;> simp [hst] at h

theorem State.holdChan_resting (h : (s.chan n).state = .idle ∨ (s.chan n).state = .halted) : s.holdChan n = s := by
  rcases h with h | h <;> simp only [State.holdChan, h]

theorem State.holdChan_underWay (h : ¬ ((s.chan n).state = .idle ∨ (s.chan n).state = .halted)) :
    s.holdChan n = s.addPause n retentionPause := by
  cases hst : (s.chan n).state with
  | idle | halted => exact absurd hst (by simp_all)
  | loading | active | paused => simp only [State.holdChan, hst]

theorem State.holdChan_rule (hone : (s.chan n).state = .active → s.oneRequest n) : chansHeld [n] s (s.holdChan n) := by
  by_cases h : (s.chan n).state = .idle ∨ (s.chan n).state = .halted
  · rw [State.holdChan_resting h]
    refine ⟨fun m => ?_, fun b m => ?_, fun b => rfl, .refl _ s⟩
    · by_cases hm : m = n
      · simp [hm, State.chanHeld, h]
      · simp [hm]
    · by_cases hm : m = n
      · simp [hm, State.requestLeft_of_resting h]
      · simp [hm]
  · rw [State.holdChan_underWay h]
    obtain ⟨hchan, harb, hframe⟩ := State.addPause_rule (p := retentionPause) rfl hone
    refine ⟨fun m => ?_, fun b m => ?_, fun b => ?_, hframe.mono (by simp +contextual [List.subset_def])⟩
    · by_cases hm : m = n
      · rw [hm, hchan, if_pos (by simp), State.chanHeld, if_neg h]
      · rw [if_neg (by simpa using hm)]
        exact hframe (.chan m) (by simp [hm, allArbs])
    · rw [harb, Four.get_set]
      by_cases hm : m = n
      · simp [hm]
      · simp [hm]
    · rw [harb]

/-- What the first reason does depends on the channel, its requests, the operations in flight and the beat. -/
theorem chanHeld_congr (hc : t.chan n = s.chan n) (hb : ∀ b, t.bank b = s.bank b) (hs : t.stream = s.stream) :
    t.chanHeld n = s.chanHeld n := by
  have hnow : t.pausesAtOnce n ↔ s.pausesAtOnce n := by
    simp only [State.pausesAtOnce, State.takesFirstReason, State.chanOp, State.anyOp, State.beatOf, hc, hb, hs]
  simp only [State.chanHeld, State.chanGiven, hc, hnow]

theorem requestLeft_congr {b : BankNo} (hc : t.chan n = s.chan n) (hr : (t.arb b).ch.get n = (s.arb b).ch.get n) :
    t.requestLeft n b = s.requestLeft n b := by
  simp only [State.requestLeft, State.takesFirstReason, hc, hr]

theorem chansHeld.retention {l : List ChanNo} (h : chansHeld l s t) : t.retention = s.retention :=
  h.frame .retention (by simp [allChans, allArbs])

theorem chansHeld.chan_of_not_mem {l : List ChanNo} (h : chansHeld l s t) (hn : n ∉ l) : t.chan n = s.chan n :=
  (h.chan n).trans (if_neg hn)

theorem chansHeld.request_of_not_mem {l : List ChanNo} (h : chansHeld l s t) (hn : n ∉ l) (b : BankNo) :
    (t.arb b).ch.get n = (s.arb b).ch.get n :=
  (h.request b n).trans (if_neg hn)

theorem chansHeld.cons {x : ChanNo} {rest : List ChanNo} (h : chansHeld [x] s t) (h' : chansHeld rest t u) (hx : x ∉ rest) :
    chansHeld (x :: rest) s u := by
  have hbank : ∀ b, t.bank b = s.bank b := fun b => h.frame (.bank b) (by simp [allChans, allArbs])
  have hstream : t.stream = s.stream := h.frame .stream (by simp [allChans, allArbs])
  refine ⟨fun m => ?_, fun b m => ?_, fun b => ?_, h.frame.trans h'.frame⟩
  · by_cases hm : m = x
    · rw [hm, h'.chan_of_not_mem hx, h.chan]
      simp
    · have hc : t.chan m = s.chan m := h.chan_of_not_mem (by simpa using hm)
      rw [h'.chan, hc, chanHeld_congr hc hbank hstream]
      simp [hm]
  · by_cases hm : m = x
    · rw [hm, h'.request_of_not_mem hx, h.request]
      simp
    · have hout : m ∉ [x] := by simpa using hm
      have hr := h.request_of_not_mem hout b
      rw [h'.request, hr, requestLeft_congr (h.chan_of_not_mem hout) hr]
      simp [hm]
  · rw [h'.arb, h.arb]

end

theorem State.holdChans_rule (l : List ChanNo) (hl : l.Nodup) (s : State)
    (hone : ∀ n ∈ l, (s.chan n).state = .active → s.oneRequest n) : chansHeld l s (l.foldl (fun t n => t.holdChan n) s) := by
  induction l generalizing s with
  | nil => exact .refl s
  | cons x rest ih =>
    obtain ⟨hx, hrest⟩ := List.nodup_cons.1 hl
    have hheld : chansHeld [x] s (s.holdChan x) := State.holdChan_rule (hone x (by simp))
    refine hheld.cons (ih hrest _ fun m hm hst => ?_) hx
    have hout : m ∉ [x] := fun hmx => hx (List.mem_singleton.1 hmx ▸ hm)
    rw [hheld.chan_of_not_mem hout] at hst
    have hs := hone m (by simp [hm]) hst
    simpa only [State.oneRequest, hheld.request_of_not_mem hout] using hs

/-! ### QUIESCING begins (R164) -/

theorem State.setRetention_self {v : State} {x : RetentionState} (h : v.retention.state = x) : v.setRetention x = v := by
  rw [State.setRetention, ← h]

/-- The channels have their orders; the fill engine and the scrubber are held in turn. -/
theorem State.enterQuiescing_rule {s : State} (hone : ∀ n, (s.chan n).state = .active → s.oneRequest n) :
    ∃ v, chansHeld Four.indices (s.setRetention .quiescing) v ∧ s.enterQuiescing = v.heldAgain := by
  have hheld := State.holdChans_rule Four.indices (by decide) (s.setRetention .quiescing) fun n _ => hone n
  have hst := State.setRetention_self (x := .quiescing) (congrArg Retention.state hheld.retention)
  refine ⟨_, hheld, ?_⟩
  rw [State.heldAgain, hst]
  rfl

section
variable {s u v : State}

theorem chansHeld.chan_eq (h : chansHeld Four.indices u v) (n : ChanNo) : v.chan n = u.chanHeld n :=
  (h.chan n).trans (if_pos (Four.mem_indices n))

theorem chansHeld.request_eq (h : chansHeld Four.indices u v) (n : ChanNo) (b : BankNo) :
    (v.arb b).ch.get n = u.requestLeft n b :=
  (h.request b n).trans (if_pos (Four.mem_indices n))

theorem State.chanHeld_resting {n : ChanNo} (h : (s.chan n).state = .idle ∨ (s.chan n).state = .halted) :
    s.chanHeld n = s.chan n :=
  if_pos h

theorem State.chanHeld_underWay {n : ChanNo}
    (h : (s.chan n).state = .loading ∨ (s.chan n).state = .paused ∨ (s.chan n).state = .active) :
    s.chanHeld n = { s.chan n with
      state := if s.pausesAtOnce n then .paused else (s.chan n).state
      pauses := { (s.chan n).pauses with retention := true } } := by
  have hunion : (s.chan n).pauses.union retentionPause = { (s.chan n).pauses with retention := true } := by
    simp [Pauses.union, retentionPause]
  rw [State.chanHeld, if_neg (by rcases h with h | h | h <;> simp [h]), State.chanGiven, hunion]

/-- The fill engine and the scrubber held, the arbiters differ from before in a channel's requests and in theirs. -/
theorem chansHeld.heldAgain_arb (h : chansHeld Four.indices u v) (b : BankNo) :
    v.heldAgain.arb b = { u.arb b with fill := none, scrub := none, ch := (v.heldAgain.arb b).ch } := by
  rw [State.heldAgain_arb, h.arb b]

end

/-! ### The changes of the line -/

/-- The part that has seen the new level of RET_REQ. -/
def State.withReq (s : State) (level : Bool) : State := { s with retention := { s.retention with req := level } }

section
variable {s : State}

theorem next_retReqRise (h : s.atRest) (hreq : s.retention.req = false) : exec .retReqRise s = .next s.retReqRises := by
  rw [show exec .retReqRise s = execRetReqRise s from rfl, execRetReqRise, s.settled_of_quiet h.2, h.1, hreq]
  rfl

theorem next_retReqFall (h : s.atRest) (hreq : s.retention.req = true) : exec .retReqFall s = .next s.retReqFalls := by
  rw [show exec .retReqFall s = execRetReqFall s from rfl, execRetReqFall, s.settled_of_quiet h.2, h.1, hreq]
  rfl

theorem State.retReqRises_normal (h : s.retention.state = .normal) : s.retReqRises = (s.withReq true).enterQuiescing := by
  simp only [State.retReqRises, h, State.withReq]

theorem State.retReqRises_other (h : s.retention.state ≠ .normal) : s.retReqRises = s.withReq true := by
  cases hst : s.retention.state with
  | normal => exact absurd hst h
  | quiescing | denied | entering | retained | waking => simp only [State.retReqRises, hst, State.withReq]

/-- QUIESCING is given up: what it held goes on, and beside one channel's request nothing has come to a bank. -/
theorem State.retReqFalls_quiescing {v : State} {n : ChanNo} (h : s.retention.state = .quiescing)
    (hrel : ((s.withReq false).setRetention .normal).releaseAll = v.unitsReleased)
    (hf : unchangedBut (allChans ++ allArbs) ((s.withReq false).setRetention .normal) v)
    (harb : ∀ b, v.arb b = s.arb b ∨ ∃ q, v.arb b = withRequest n q b (s.arb b)) : s.retReqFalls = v.unitsReleased := by
  have hmeet : s.meet v.unitsReleased = v.unitsReleased := State.meet_of_lifted harb
    (fun b => hf (.bank b) (by simp [allChans, allArbs])) fun b => hf (.account b) (by simp [allChans, allArbs])
  have hfalls : s.retReqFalls = s.meet ((s.withReq false).setRetention .normal).releaseAll := by
    simp only [State.retReqFalls, h, State.withReq]
  rw [hfalls, hrel, hmeet]

theorem State.retReqFalls_denied (h : s.retention.state = .denied) :
    s.retReqFalls = (s.withReq false).setRetention .normal := by
  simp only [State.retReqFalls, h, State.withReq]

theorem State.retReqFalls_retained (h : s.retention.state = .retained) : s.retReqFalls = (s.withReq false).enterWaking := by
  simp only [State.retReqFalls, h, State.withReq]

theorem State.retReqFalls_changing (h : s.retention.state = .entering ∨ s.retention.state = .waking) :
    s.retReqFalls = s.withReq false := by
  rcases h with h | h <;> simp only [State.retReqFalls, h, State.withReq]

end

/-- Settles O42. -/
theorem retReqMovesTheController : Obligations.RetReqMovesTheController := by
  intro s hrest
  refine ⟨fun hreq hst hone => ?_, fun hreq hst => ?_, fun hreq hst hnone hq hcred hflight hport => ?_,
    fun n hreq hst hlift hq hcred hflight => ?_, fun hreq hst => ?_, fun hreq hst => ?_, fun hreq hst => ?_⟩
  · obtain ⟨v, hheld, henter⟩ := State.enterQuiescing_rule (s := s.withReq true) hone
    have hlast := v.heldAgain_frame
    have hchan : ∀ n, v.heldAgain.chan n = s.chanHeld n := fun n =>
      (hlast (.chan n) (by simp [allArbs])).trans (hheld.chan_eq n)
    have hret : v.retention = { s.retention with state := .quiescing, req := true } := hheld.retention
    have hfill : v.fill = s.fill := hheld.frame .fill (by simp [allChans, allArbs])
    have hscrub : v.scrub = s.scrub := hheld.frame .scrub (by simp [allChans, allArbs])
    refine ⟨v.heldAgain, ?_, ?_, fun n hn => (hchan n).trans (State.chanHeld_underWay hn),
      fun n hn => (hchan n).trans (State.chanHeld_resting hn), ?_, ?_, fun b => ⟨hheld.heldAgain_arb b, fun n => ?_⟩, ?_⟩
    · rw [next_retReqRise hrest hreq, State.retReqRises_normal hst, henter]
    · rw [State.heldAgain_retention, hret]
    · rw [State.heldAgain_fill, hfill]
    · rw [State.heldAgain_scrub, hscrub]
    · rw [State.heldAgain_arb]
      exact hheld.request_eq n b
    · exact (((s.withRetention_frame _).mono (by simp)).andThen hheld.frame (by simp +contextual [List.subset_def])).andThen hlast
        (by simp +contextual [List.subset_def])
  · rw [next_retReqRise hrest hreq, State.retReqRises_other hst]
    rfl
  · have hrel := State.releaseAll_of_none (u := (s.withReq false).setRetention .normal) hnone ⟨hq, hcred, hflight⟩ hport
    have hdone := State.retReqFalls_quiescing (n := 0) hst hrel (.refl _ _) fun _ => .inl rfl
    obtain ⟨hret, hunit, hscrub⟩ := unitsFree_of_frame (s := s) (v := (s.withReq false).setRetention .normal) (.refl _ _)
    exact ⟨_, (next_retReqFall hrest hreq).trans (congrArg _ hdone), hret, hunit, hscrub,
      ((s.withRetention_frame _).mono (by simp)).andThen (State.unitsReleased_frame _) (by simp)⟩
  · obtain ⟨v, hrel, ⟨hlifted, -, harb, hf⟩⟩ :=
      State.releaseAll_lifted (u := (s.withReq false).setRetention .normal) hlift ⟨hq, hcred, hflight⟩
    obtain ⟨hret, hunit, hscrub⟩ := unitsFree_of_frame (s := s) hf
    exact ⟨_, (next_retReqFall hrest hreq).trans (congrArg _ (State.retReqFalls_quiescing hst hrel hf harb)), hret, hunit, hscrub,
      hlifted, (((s.withRetention_frame _).mono (by simp)).andThen hf (by simp +contextual [List.subset_def])).andThen
        (State.unitsReleased_frame _) (by simp)⟩
  · rw [next_retReqFall hrest hreq, State.retReqFalls_denied hst]
    rfl
  · exact ⟨_, (next_retReqFall hrest hreq).trans (congrArg _ (State.retReqFalls_retained hst)), s.enterWaking_wakes _ rfl⟩
  · rw [next_retReqFall hrest hreq, State.retReqFalls_changing hst]
    rfl

end Sys2Proof.Machine
end

section
-- One thread at a time: the stack of each thread counts against the memory limit of the check.
set_option Elab.async false
/-! SUPPORT. Proofs/EventUnit.lean: what every step keeps of the error log, the flags bit by bit, INT, and the writes to EVENT_FLAGS and
EVENT_ENABLE. -/

namespace Sys2Proof.Machine

/-- Settles O5: the bounds of the log pass through every step; only a finding handed over adds to it (`Keeps.hand`). -/
theorem everyStepKeepsLog : Obligations.EveryStepKeepsLog :=
  fun _ _ hl hs => (keeps_of_step hs).log hl

/-! ### The flags and INT (R182, R183) -/

/-- The level that `State.eventFlags` adds to the sticky flags stands in bit 8 alone. -/
theorem logLevel_getLsbD (empty : Bool) (i : Nat) :
    (if empty then 0#17 else 1#17 <<< 8).getLsbD i = (decide (i = 8) && !empty) := by
  cases empty with
  | true => simp
  | false => simp [← BitVec.twoPow_eq, BitVec.getLsbD_twoPow, eq_comm]

section
variable (s : State)

/-- A flag is its sticky flag, and LOG beside that the level of a log that is not empty. -/
theorem State.eventFlags_getLsbD (i : Nat) :
    s.eventFlags.getLsbD i = (s.events.sticky.getLsbD i || (decide (i = 8) && !s.log.records.isEmpty)) := by
  rw [State.eventFlags, BitVec.getLsbD_or, logLevel_getLsbD]

theorem State.eventFlags_getLsbD_sticky {i : Nat} (h : i ≠ 8) : s.eventFlags.getLsbD i = s.events.sticky.getLsbD i := by
  rw [State.eventFlags_getLsbD, decide_eq_false h, Bool.false_and, Bool.or_false]

/-- INT is asserted when some flag meets its enable. -/
theorem State.int_iff :
    s.int = true ↔ ∃ i < 17, s.eventFlags.getLsbD i = true ∧ s.events.enable.getLsbD i = true := by
  rw [State.int, bne_iff_ne, Ne, BitVec.eq_of_getLsbD_eq_iff]
  simp

end

/-! ### The writes to the event registers -/

section
variable (s : State) (x : Word)

/-- A write to EVENT_FLAGS leaves the sticky flags that are not written 1. -/
theorem State.writeEventFlags_sticky {i : Nat} (h : i < 17) :
    (s.writeEventFlags x).events.sticky.getLsbD i = (s.events.sticky.getLsbD i && !x.getLsbD i) := by
  simp [State.writeEventFlags, h]

theorem State.writeEventFlags_frame : unchangedBut [.events] s (s.writeEventFlags x) := by
  intro p hp
  cases p with
  | events => simp at hp
  | _ => rfl

theorem State.writeEventEnable_frame : unchangedBut [.events] s (s.writeEventEnable x) := by
  intro p hp
  cases p with
  | events => simp at hp
  | _ => rfl

/-- After a write to EVENT_ENABLE the flags as they were meet the bits of the word. -/
theorem State.writeEventEnable_int_iff :
    (s.writeEventEnable x).int = true ↔ ∃ i < 17, s.eventFlags.getLsbD i = true ∧ x.getLsbD i = true := by
  rw [State.int_iff]
  refine exists_congr fun i => and_congr_right fun hi => and_congr_right fun _ => ?_
  rw [State.writeEventEnable, BitVec.getLsbD_setWidth, decide_eq_true hi, Bool.true_and]

end

/-- Settles O51: the ends of the two bus cycles leave the event unit and the log as the writes left them. -/
theorem eventFlagsAndInt : Obligations.EventFlagsAndInt := by
  intro s x hfree
  constructor
  · have hframe : unchangedBut [.events, .host] s ((s.writeEventFlags x).endCycle (.ready none)) :=
      ((s.writeEventFlags_frame x).mono (by simp)).andThen (State.endCycle_frame _ _) (by simp)
    refine ⟨_, next_busCycle hfree, fun i hi hlog => ?_, fun hlevel => ?_, rfl, State.int_iff _, rfl, hframe⟩
    · rw [State.eventFlags_getLsbD_sticky _ hlog, State.eventFlags_getLsbD_sticky _ hlog]
      exact s.writeEventFlags_sticky x hi
    · rw [State.eventFlags_getLsbD, State.endCycle_events, s.writeEventFlags_sticky x (by decide), hlevel]
      rfl
  · have hframe : unchangedBut [.events, .host] s ((s.writeEventEnable x).endCycle (.ready none)) :=
      ((s.writeEventEnable_frame x).mono (by simp)).andThen (State.endCycle_frame _ _) (by simp)
    exact ⟨_, next_busCycle hfree, rfl, s.writeEventEnable_int_iff x, rfl, hframe⟩

end Sys2Proof.Machine
end

section
-- One thread at a time: the stack of each thread counts against the memory limit of the check.
set_option Elab.async false
/-! SUPPORT. Proofs/ResetRegisters.lean: the step of a queue that is not empty, and what the register map reads as after reset (12.1). -/

namespace Sys2Proof.Machine

/-- Settles O1: the queue is not empty, so the step is that of its front command. -/
theorem stepRunsFrontCommand : Obligations.StepRunsFrontCommand := by
  intro c rest s hqueue
  rw [step, hqueue]

/-! ### The units after reset -/

section
variable (b : BankNo)

@[simp] theorem State.reset_bank : State.reset.bank b = resetBank := Four.get_all _ b

@[simp] theorem State.reset_arb : State.reset.arb b = resetArbiter := Four.get_all _ b

@[simp] theorem State.reset_account : State.reset.account b = { balance := 0, cursor := 0#8 } := Four.get_all _ b

@[simp] theorem State.reset_chan (n : ChanNo) : State.reset.chan n = resetChannel := Four.get_all _ n

theorem State.reset_refreshing : State.reset.refreshing b = false := by simp [State.refreshing, resetBank]

/-- A balance of zero is OPPORTUNISTIC, but only on a READY bank (R46), and reset leaves every bank OFF. -/
theorem State.reset_urgency : State.reset.urgency b = .none := by simp [State.urgency, State.isReady, resetBank]

theorem State.reset_refreshRequest : State.reset.refreshRequest b = .none := by
  rw [State.refreshRequest, State.reset_urgency, ite_self]

theorem State.reset_capped : State.reset.capped b = false := by simp [State.capped, resetArbiter, Config.streakCap]

/-! ### The registers after reset (12.1) -/

theorem State.reset_readRefStatus : State.reset.readRefStatus b = 0#32 := by
  rw [State.readRefStatus, State.reset_account, State.reset_urgency, State.reset_refreshing]
  rfl

/-- No request stands; the two fives are the rotation positions (R78). -/
theorem State.reset_readArbStatus : State.reset.readArbStatus b = 0x00550000#32 := by
  rw [State.readArbStatus, State.reset_refreshRequest, State.reset_capped, State.reset_arb]
  rfl

end

/-- Of the eight registers of a channel only FENCE_LIMIT is not zero (R144). -/
theorem chRegister_reset : ∀ k, chRegister resetChannel k = if k = 5 then 0x00FFFFFC#32 else 0#32
  | 0 | 1 | 2 | 3 | 4 | 5 => rfl
  | _ + 6 => rfl

/-- Settles O3: a bank's and a channel's registers read the same for every bank and channel; what is left is the map itself. -/
theorem resetRegisterValues : Obligations.ResetRegisterValues := by
  intro reg
  have hconfig : State.reset.readConfig = 0x00048818#32 := rfl
  have hconfig2 : State.reset.readConfig2 = 0x320A313F#32 := rfl
  have hstream : State.reset.readStreamStatus = 0x00000030#32 := rfl
  have hreg : reg.toNat < 64 := reg.isLt
  simp only [State.registerRead, hconfig, hconfig2, hstream, State.reset_readRefStatus, State.reset_readArbStatus,
    State.reset_chan, chRegister_reset]
  generalize reg.toNat = k at hreg
  interval_cases k <;> rfl

end Sys2Proof.Machine
end
